-- ==== Sys2Proof/Word.lean ====
section
/-! DEFINITION. The widths the spec names: a byte of the input buffer (R5) and a host-visible register word (R4, R39). -/

namespace Sys2Proof

/-- R5: a byte is an unsigned 8-bit value. -/
abbrev Byte := BitVec 8

/-- R4: a host-visible register is `RW` = 32 bits; the offset registers are `AW` = 32 bits too. -/
abbrev Word := BitVec 32

end Sys2Proof
end

