-- ==== Sys2Proof/Config.lean ====
section
/-! DEFINITION. What is fixed for the machine: the largest buffer, the sampling-frequency table, and the one free value
(the bytes of the buffer that the host never wrote). -/

namespace Sys2Proof

/-- R4: `LEN_MAX` = 2^AW - 2, the largest legal buffer length. -/
def Config.lenMax : Nat := 4294967294

/-- `SFTAB` of R86, index 0 first, in hertz. UNVERIFIED (notes/assumptions/5.md): entries 0, 3 and 12 come from the
spec's source; R86 itself supplies the other ten from general knowledge. -/
def Config.sfTab : List (BitVec 17) :=
  [96000, 88200, 64000, 48000, 44100, 32000, 24000, 22050, 16000, 12000, 11025, 8000, 7350]

/-- A FREE VALUE (notes/assumptions/3.md): the byte the host's memory holds at an offset that no load of the model has
written (U5 and U18 of 93_implementation_defined.md: "any value", "Never zero by default"). It has no body: nothing can
be proved of its value but that the same offset always gives the same byte (R61, R66). -/
opaque Config.unloadedByte : Nat → Byte

end Sys2Proof
end

