-- ==== Sys2Proof/Syntax.lean ====
section
/-! DEFINITION. The rows of spec/opcode_table.json, one constructor each, and the thirteen tables their bits are looked up
in. A row is an operation of this block, not an instruction of a stream: R80 gives the formats, R91 what is reserved. -/

namespace Sys2Proof

/-- The table in which a row's bits are looked up (R80). The bits alone do not say which: the code 1 is the step SYNC as
a phase, DECODE as a command and Main as a profile, so the context in which the bits arise names the table. -/
inductive Table where
  /-- The function `read_bit` (R120); no encoding bits, only operands. -/
  | readBit
  /-- The function `read_bits` (R121); no encoding bits, only operands. -/
  | readBits
  /-- The 4-bit phase codes of R24. -/
  | phase
  /-- The command codes of R170, in bits 2:0 of a 32-bit write to CTRL. -/
  | command
  /-- The header layout `HDR56` of R81. -/
  | header
  /-- The decoder's sync candidate, R89. -/
  | candidate
  /-- The scanner's four sync patterns, R90. -/
  | pattern
  /-- Value table of the MPEG version bit, R88. -/
  | verField
  /-- Value table of the protection-absent bit, R88. -/
  | protField
  /-- Value table of the layer bits, R88. -/
  | layerField
  /-- `PROFMAP`, R85, on 3-bit values. -/
  | profileField
  /-- `SFTAB`, R86, on 4-bit values. -/
  | sfiField
  /-- `CCMAP`, R87, on 4-bit values. -/
  | chanField
  deriving DecidableEq, Repr

/-- One constructor per row of spec/opcode_table.json. -/
inductive Instr where
  /-- `read_bit(byte, offset)`, R120. -/
  | readBit (byte : Byte) (offset : Nat)
  /-- `read_bits(byte, offset, count)`, R121. -/
  | readBits (byte : Byte) (offset count : Nat)
  /-- Phase 0, IDLE: R171. -/
  | idle
  /-- Phase 1, SYNC: R131. -/
  | sync
  /-- Phase 2, VER: R132. -/
  | ver
  /-- Phase 3, LAYER: R133. -/
  | layer
  /-- Phase 4, PROT: R134. -/
  | prot
  /-- Phase 5, PROFILE: R135. -/
  | profile
  /-- Phase 6, SFI: R136. -/
  | sfi
  /-- Phase 7, PRIV: R137. -/
  | priv
  /-- Phase 8, CHAN: R138. -/
  | chan
  /-- Phase 9, SCAN: R162. -/
  | scan
  /-- Phase 10, DONE: R171. -/
  | done
  /-- Phase code 11, reserved: R24. -/
  | phaseReserved11
  /-- Phase code 12, reserved: R24. -/
  | phaseReserved12
  /-- Phase code 13, reserved: R24. -/
  | phaseReserved13
  /-- Phase code 14, reserved: R24. -/
  | phaseReserved14
  /-- Phase code 15, reserved: R24. -/
  | phaseReserved15
  /-- Command 0, NOP: R170. -/
  | cmdNop
  /-- Command 1, DECODE: R172. -/
  | cmdDecode
  /-- Command 2, SCAN: R173. -/
  | cmdScan
  /-- Command 3, RUN: R174. -/
  | cmdRun
  /-- Command 4, CLEAR: R179. -/
  | cmdClear
  /-- Command code 5, reserved: R170. -/
  | cmdReserved5
  /-- Command code 6, reserved: R170. -/
  | cmdReserved6
  /-- Command code 7, reserved: R170. -/
  | cmdReserved7
  /-- A whole header, `11111111 1111vllp hxssssPP uuuuuucc` and 24 bits that are never read: R81, R82. -/
  | adtsHeader (v : BitVec 1) (l : BitVec 2) (p : BitVec 1) (h : BitVec 1) (x : BitVec 1) (ssss : BitVec 4)
      (pp : BitVec 2) (u6 : BitVec 6) (cc : BitVec 2) (u24 : BitVec 24)
  /-- The pair `(0xFF, 0xF0 | low)`: R89. -/
  | syncCandidate (low : BitVec 4)
  /-- The pair of SCANP = (VER 0, CRC 0): R90. -/
  | scanPattern00
  /-- The pair of SCANP = (VER 0, CRC 1): R90. -/
  | scanPattern01
  /-- The pair of SCANP = (VER 1, CRC 0): R90. -/
  | scanPattern10
  /-- The pair of SCANP = (VER 1, CRC 1): R90. -/
  | scanPattern11
  /-- The rows of the value table of the MPEG version field, raw value by raw value: R88. -/
  | ver0
  | ver1
  /-- The rows of the value table of the protection absent field, raw value by raw value: R88. -/
  | prot0
  | prot1
  /-- The rows of the value table of the layer field, raw value by raw value: R88. -/
  | layer0
  | layer1
  | layer2
  | layer3
  /-- The rows of the value table of the profile field, raw value by raw value: R85. -/
  | profile0
  | profile1
  | profile2
  | profile3
  | profile4
  | profile5
  | profile6
  | profile7
  /-- The rows of the value table of the sampling-frequency index field, raw value by raw value: R86. -/
  | sfi0
  | sfi1
  | sfi2
  | sfi3
  | sfi4
  | sfi5
  | sfi6
  | sfi7
  | sfi8
  | sfi9
  | sfi10
  | sfi11
  | sfi12
  | sfi13
  | sfi14
  | sfi15
  /-- The rows of the value table of the channel configuration field, raw value by raw value: R87. -/
  | chan0
  | chan1
  | chan2
  | chan3
  | chan4
  | chan5
  | chan6
  | chan7
  | chan8
  | chan9
  | chan10
  | chan11
  | chan12
  | chan13
  | chan14
  | chan15
  deriving DecidableEq, Repr

end Sys2Proof
end

