-- ==== Sys2Proof/WellFormed.lean ====
section
/-! DEFINITION. Which instructions are well formed: the contracts of the two functions (R120, R121, R122). Every other
row's operands are bit fields of the row's own width, so there is nothing to check. -/

namespace Sys2Proof

/-- R120: `0 <= offset <= 7`; R121: `offset + count <= 8`. -/
def Instr.wf : Instr → Bool
  | .readBit _ offset => decide (offset ≤ 7)
  | .readBits _ offset count => decide (offset + count ≤ 8)
  | _ => true

end Sys2Proof
end

