-- ==== Sys2Proof/Decode.lean ====
section
/-! DEFINITION. The decoder: from a table and a number to an instruction or a rejection by name; then the encoder, written
from the same tables of the spec; then the numbering of spec/opcode_table.json. Codes: R24 (phases), R170 (commands), R81
(header), R89 and R90 (pairs), R85 to R88 (value tables). -/

namespace Sys2Proof

/-- Why a number is no row of a table. -/
inductive DecodeError where
  /-- The table has no row for this number: a 16-bit pair that is no candidate or no pattern, a header that does not begin
  with the sync word, or a number too wide for the table's field. -/
  | noRow (t : Table) (w : Nat)
  /-- The operands of `read_bit` or `read_bits` lie outside the function's contract (R122). -/
  | outOfContract (t : Table) (w : Nat)
  /-- The bytes given are not as many as the table's rows have. -/
  | wrongLength (t : Table) (n : Nat)
  deriving DecidableEq, Repr

/-- R24: the sixteen 4-bit phase codes. -/
def decodePhase (w : Nat) : Except DecodeError Instr :=
  match w with
  | 0 => .ok .idle
  | 1 => .ok .sync
  | 2 => .ok .ver
  | 3 => .ok .layer
  | 4 => .ok .prot
  | 5 => .ok .profile
  | 6 => .ok .sfi
  | 7 => .ok .priv
  | 8 => .ok .chan
  | 9 => .ok .scan
  | 10 => .ok .done
  | 11 => .ok .phaseReserved11
  | 12 => .ok .phaseReserved12
  | 13 => .ok .phaseReserved13
  | 14 => .ok .phaseReserved14
  | 15 => .ok .phaseReserved15
  | _ => .error (.noRow .phase w)

/-- R170: the command is bits 2:0 of the word written to CTRL; bits 31:3 are ignored (R38). -/
def decodeCommand (w : Nat) : Except DecodeError Instr :=
  match w % 8 with
  | 0 => .ok .cmdNop
  | 1 => .ok .cmdDecode
  | 2 => .ok .cmdScan
  | 3 => .ok .cmdRun
  | 4 => .ok .cmdClear
  | 5 => .ok .cmdReserved5
  | 6 => .ok .cmdReserved6
  | _ => .ok .cmdReserved7

/-- R81: the 56 bits of a header as one number, `hb0` in its top byte (R80). -/
def decodeHeader (w : Nat) : Except DecodeError Instr :=
  if w / 2 ^ 44 = 0xFFF then
    .ok (.adtsHeader (BitVec.ofNat 1 (w / 2 ^ 43)) (BitVec.ofNat 2 (w / 2 ^ 41)) (BitVec.ofNat 1 (w / 2 ^ 40))
      (BitVec.ofNat 1 (w / 2 ^ 39)) (BitVec.ofNat 1 (w / 2 ^ 38)) (BitVec.ofNat 4 (w / 2 ^ 34))
      (BitVec.ofNat 2 (w / 2 ^ 32)) (BitVec.ofNat 6 (w / 2 ^ 26)) (BitVec.ofNat 2 (w / 2 ^ 24)) (BitVec.ofNat 24 w))
  else .error (.noRow .header w)

/-- R89: mask and match `0xFFF0` on a 16-bit pair. -/
def decodeCandidate (w : Nat) : Except DecodeError Instr :=
  if w / 16 = 0xFFF then .ok (.syncCandidate (BitVec.ofNat 4 w)) else .error (.noRow .candidate w)

/-- R90: the four sync patterns, all sixteen bits fixed. -/
def decodePattern (w : Nat) : Except DecodeError Instr :=
  match w with
  | 0xFFF1 => .ok .scanPattern00
  | 0xFFF0 => .ok .scanPattern01
  | 0xFFF9 => .ok .scanPattern10
  | 0xFFF8 => .ok .scanPattern11
  | _ => .error (.noRow .pattern w)

/-- R88: the MPEG version bit. -/
def decodeVerField (w : Nat) : Except DecodeError Instr :=
  match w with
  | 0 => .ok .ver0
  | 1 => .ok .ver1
  | _ => .error (.noRow .verField w)

/-- R88: the protection-absent bit. -/
def decodeProtField (w : Nat) : Except DecodeError Instr :=
  match w with
  | 0 => .ok .prot0
  | 1 => .ok .prot1
  | _ => .error (.noRow .protField w)

/-- R88: the layer bits, numbered as RAW.LAYER numbers them (R84). -/
def decodeLayerField (w : Nat) : Except DecodeError Instr :=
  match w with
  | 0 => .ok .layer0
  | 1 => .ok .layer1
  | 2 => .ok .layer2
  | 3 => .ok .layer3
  | _ => .error (.noRow .layerField w)

/-- R85: raw profile values 0 to 7. -/
def decodeProfileField (w : Nat) : Except DecodeError Instr :=
  match w with
  | 0 => .ok .profile0
  | 1 => .ok .profile1
  | 2 => .ok .profile2
  | 3 => .ok .profile3
  | 4 => .ok .profile4
  | 5 => .ok .profile5
  | 6 => .ok .profile6
  | 7 => .ok .profile7
  | _ => .error (.noRow .profileField w)

/-- R86: sampling-frequency indices 0 to 15. -/
def decodeSfiField (w : Nat) : Except DecodeError Instr :=
  match w with
  | 0 => .ok .sfi0
  | 1 => .ok .sfi1
  | 2 => .ok .sfi2
  | 3 => .ok .sfi3
  | 4 => .ok .sfi4
  | 5 => .ok .sfi5
  | 6 => .ok .sfi6
  | 7 => .ok .sfi7
  | 8 => .ok .sfi8
  | 9 => .ok .sfi9
  | 10 => .ok .sfi10
  | 11 => .ok .sfi11
  | 12 => .ok .sfi12
  | 13 => .ok .sfi13
  | 14 => .ok .sfi14
  | 15 => .ok .sfi15
  | _ => .error (.noRow .sfiField w)

/-- R87: channel values 0 to 15. -/
def decodeChanField (w : Nat) : Except DecodeError Instr :=
  match w with
  | 0 => .ok .chan0
  | 1 => .ok .chan1
  | 2 => .ok .chan2
  | 3 => .ok .chan3
  | 4 => .ok .chan4
  | 5 => .ok .chan5
  | 6 => .ok .chan6
  | 7 => .ok .chan7
  | 8 => .ok .chan8
  | 9 => .ok .chan9
  | 10 => .ok .chan10
  | 11 => .ok .chan11
  | 12 => .ok .chan12
  | 13 => .ok .chan13
  | 14 => .ok .chan14
  | 15 => .ok .chan15
  | _ => .error (.noRow .chanField w)

/-- R120, R122: the operands of `read_bit` as one number, `byte` in bits 7:0 and `offset` above it. DESIGN CHOICE
(notes/assumptions/7.md): the spec gives the function no encoding bits, so this only says how a call is written down. -/
def decodeReadBit (w : Nat) : Except DecodeError Instr :=
  let i := Instr.readBit (BitVec.ofNat 8 w) (w / 256)
  if i.wf then .ok i else .error (.outOfContract .readBit w)

/-- R121, R122: the operands of `read_bits` as one number, `byte` in bits 7:0, `offset` in bits 15:8 and `count` above
it. DESIGN CHOICE (notes/assumptions/7.md), as for `decodeReadBit`. -/
def decodeReadBits (w : Nat) : Except DecodeError Instr :=
  let i := Instr.readBits (BitVec.ofNat 8 w) (w / 256 % 256) (w / 65536)
  if i.wf then .ok i else .error (.outOfContract .readBits w)

/-- The instruction that the number `w` is in the table `t`; total, every other number rejected by name. -/
def decode (t : Table) (w : Nat) : Except DecodeError Instr :=
  match t with
  | .readBit => decodeReadBit w
  | .readBits => decodeReadBits w
  | .phase => decodePhase w
  | .command => decodeCommand w
  | .header => decodeHeader w
  | .candidate => decodeCandidate w
  | .pattern => decodePattern w
  | .verField => decodeVerField w
  | .protField => decodeProtField w
  | .layerField => decodeLayerField w
  | .profileField => decodeProfileField w
  | .sfiField => decodeSfiField w
  | .chanField => decodeChanField w

/-- How many bytes a row of the table has: `HDR56` seven, `PAIR16` two, a command the 32-bit register word, the others one
byte an operand or field (R80). -/
def Table.bytes : Table → Nat
  | .readBit => 2
  | .readBits => 3
  | .command => 4
  | .header => 7
  | .candidate => 2
  | .pattern => 2
  | .phase | .verField | .protField | .layerField | .profileField | .sfiField | .chanField => 1

/-- R64: bytes as one number, the byte at the lower offset the high-order byte. -/
def numberOfBytes (bs : List Byte) : Nat :=
  bs.foldl (fun acc b => acc * 256 + b.toNat) 0

/-- The decoder on bytes, offset 0 first. -/
def decodeBytes (t : Table) (bs : List Byte) : Except DecodeError Instr :=
  if bs.length = t.bytes then decode t (numberOfBytes bs) else .error (.wrongLength t bs.length)

/-- The table and the number of an instruction, written from the spec's own tables: codes of R24 and R170, layout of R81,
pairs of R89 and R90, raw values of R85 to R88. Bits the spec ignores are written 0. -/
def encode (i : Instr) : Table × Nat :=
  match i with
  | .readBit byte offset => (.readBit, byte.toNat + 256 * offset)
  | .readBits byte offset count => (.readBits, byte.toNat + 256 * offset + 65536 * count)
  | .idle => (.phase, 0)
  | .sync => (.phase, 1)
  | .ver => (.phase, 2)
  | .layer => (.phase, 3)
  | .prot => (.phase, 4)
  | .profile => (.phase, 5)
  | .sfi => (.phase, 6)
  | .priv => (.phase, 7)
  | .chan => (.phase, 8)
  | .scan => (.phase, 9)
  | .done => (.phase, 10)
  | .phaseReserved11 => (.phase, 11)
  | .phaseReserved12 => (.phase, 12)
  | .phaseReserved13 => (.phase, 13)
  | .phaseReserved14 => (.phase, 14)
  | .phaseReserved15 => (.phase, 15)
  | .cmdNop => (.command, 0)
  | .cmdDecode => (.command, 1)
  | .cmdScan => (.command, 2)
  | .cmdRun => (.command, 3)
  | .cmdClear => (.command, 4)
  | .cmdReserved5 => (.command, 5)
  | .cmdReserved6 => (.command, 6)
  | .cmdReserved7 => (.command, 7)
  | .adtsHeader v l p h x ssss pp u6 cc u24 =>
      (.header, 0xFFF * 2 ^ 44 + v.toNat * 2 ^ 43 + l.toNat * 2 ^ 41 + p.toNat * 2 ^ 40 + h.toNat * 2 ^ 39
        + x.toNat * 2 ^ 38 + ssss.toNat * 2 ^ 34 + pp.toNat * 2 ^ 32 + u6.toNat * 2 ^ 26 + cc.toNat * 2 ^ 24 + u24.toNat)
  | .syncCandidate low => (.candidate, 0xFFF0 + low.toNat)
  | .scanPattern00 => (.pattern, 0xFFF1)
  | .scanPattern01 => (.pattern, 0xFFF0)
  | .scanPattern10 => (.pattern, 0xFFF9)
  | .scanPattern11 => (.pattern, 0xFFF8)
  | .ver0 => (.verField, 0)
  | .ver1 => (.verField, 1)
  | .prot0 => (.protField, 0)
  | .prot1 => (.protField, 1)
  | .layer0 => (.layerField, 0)
  | .layer1 => (.layerField, 1)
  | .layer2 => (.layerField, 2)
  | .layer3 => (.layerField, 3)
  | .profile0 => (.profileField, 0)
  | .profile1 => (.profileField, 1)
  | .profile2 => (.profileField, 2)
  | .profile3 => (.profileField, 3)
  | .profile4 => (.profileField, 4)
  | .profile5 => (.profileField, 5)
  | .profile6 => (.profileField, 6)
  | .profile7 => (.profileField, 7)
  | .sfi0 => (.sfiField, 0)
  | .sfi1 => (.sfiField, 1)
  | .sfi2 => (.sfiField, 2)
  | .sfi3 => (.sfiField, 3)
  | .sfi4 => (.sfiField, 4)
  | .sfi5 => (.sfiField, 5)
  | .sfi6 => (.sfiField, 6)
  | .sfi7 => (.sfiField, 7)
  | .sfi8 => (.sfiField, 8)
  | .sfi9 => (.sfiField, 9)
  | .sfi10 => (.sfiField, 10)
  | .sfi11 => (.sfiField, 11)
  | .sfi12 => (.sfiField, 12)
  | .sfi13 => (.sfiField, 13)
  | .sfi14 => (.sfiField, 14)
  | .sfi15 => (.sfiField, 15)
  | .chan0 => (.chanField, 0)
  | .chan1 => (.chanField, 1)
  | .chan2 => (.chanField, 2)
  | .chan3 => (.chanField, 3)
  | .chan4 => (.chanField, 4)
  | .chan5 => (.chanField, 5)
  | .chan6 => (.chanField, 6)
  | .chan7 => (.chanField, 7)
  | .chan8 => (.chanField, 8)
  | .chan9 => (.chanField, 9)
  | .chan10 => (.chanField, 10)
  | .chan11 => (.chanField, 11)
  | .chan12 => (.chanField, 12)
  | .chan13 => (.chanField, 13)
  | .chan14 => (.chanField, 14)
  | .chan15 => (.chanField, 15)

/-- The table and the number that spec/opcode_table.json's numbering names: `nbits` bits in whole bytes, value `w`. The
table gives no bits that tell one code space from another, so DESIGN CHOICE (notes/assumptions/8.md): one byte is a PHASE
code, the block's program counter (bits above 3:0 do not exist); two bytes are a scanner pattern if they are one, else a
sync candidate; four bytes are a word written to CTRL; seven are a header. -/
def tableWord (nbits w : Nat) : Table × Nat :=
  if nbits = 0 then (.readBit, w)
  else if nbits ≤ 8 then (.phase, w % 16)
  else if nbits ≤ 16 then
    match decodePattern w with
    | .ok _ => (.pattern, w)
    | .error _ => (.candidate, w)
  else if nbits ≤ 24 then (.readBits, w)
  else if nbits ≤ 32 then (.command, w % 2 ^ 32)
  else (.header, w)

/-- The instruction this decoder reads from an instruction of the table whose bits are `w`. -/
def decodeTableWord (nbits w : Nat) : Option Instr :=
  match decode (tableWord nbits w).1 (tableWord nbits w).2 with
  | .ok i => some i
  | .error _ => none

end Sys2Proof
end

