-- ==== Sys2Proof/Machine/State.lean ====
section
/-! DEFINITION. The state of the block (R20, R39, R43), the buffer it reads (R60), the host's pending actions, and the
reasons a step can stop. -/

namespace Sys2Proof.Machine

/-- A per-check status of FST (R33). -/
inductive Status where
  /-- 0: not attempted. -/
  | none
  /-- 1: read and valid. -/
  | ok
  /-- 2: read, and the value is one the spec calls invalid; for SYNC: searched and not found. -/
  | invalid
  /-- 3: not read. -/
  | unread
  deriving DecidableEq, Repr

/-- SCANP, the scanner's two parameter bits (R23). -/
structure Scanp where
  ver : BitVec 1
  crc : BitVec 1
  deriving DecidableEq, Repr

/-- HDR, the packed fields of `HeaderInfo` (R27). -/
structure Hdr where
  ver : BitVec 1
  crc : BitVec 1
  profile : BitVec 3
  chan : BitVec 4
  deriving DecidableEq, Repr

/-- RAW, the header bits as read (R35). -/
structure Raw where
  ver : BitVec 1
  layer : BitVec 2
  pa : BitVec 1
  prof : BitVec 2
  sfi : BitVec 4
  cc : BitVec 3
  deriving DecidableEq, Repr

/-- FST, the eight statuses (R33). -/
structure Fst where
  sync : Status
  ver : Status
  layer : Status
  crc : Status
  prof : Status
  sf : Status
  cc : Status
  scan : Status
  deriving DecidableEq, Repr

/-- ERR, one sticky flag per cause code 1 to 8 (R36, R190). -/
structure Err where
  syncNotFound : Bool
  invalidLayer : Bool
  invalidProfile : Bool
  invalidSamplingFrequency : Bool
  invalidChannelConfig : Bool
  sourceUnavailable : Bool
  emptyInput : Bool
  truncated : Bool
  deriving DecidableEq, Repr

/-- The buffer: (offset, byte) pairs, offsets strictly rising. An offset not listed holds no byte that a load has written;
what a read of it gives is `Config.unloadedByte` (notes/assumptions/3.md). -/
abbrev Memory := List Host.Cell

/-- What the host does at the block's boundary (R94, R181, R220), and whose turn it is. -/
inductive HostAct where
  /-- `BUF = [b0 b1 ...]`: the host writes the bytes at offsets 0, 1, ... (R94, R60). -/
  | load (bytes : List Byte)
  /-- `WR idx, value`; with `idx` = 0 a command (R170, R181). -/
  | wr (idx : Nat) (value : Word)
  /-- `RD idx` (R181). -/
  | rd (idx : Nat)
  /-- `WAIT`: read STATUS until DONE = 1 (R94). -/
  | wait
  /-- The host does nothing and the sequencer takes one step. -/
  | turn
  /-- The reset input is asserted and released (R220). -/
  | reset
  /-- The model's own, no move of the spec's host: a number of a table is evaluated as that table's row
  (notes/assumptions/2.md). -/
  | present (t : Table) (w : Nat)
  deriving DecidableEq, Repr

/-- The whole state. The first fourteen fields are the spec's (R20, R39); `buf` is the host's memory the block reads (R60);
`host` and `dataOut` are the model's own (notes/assumptions/1.md). -/
structure State where
  /-- LEN, register 2 (R21). -/
  len : Word
  /-- CFG.SRC_OK, register 3 bit 0 (R22). -/
  srcOk : BitVec 1
  /-- SCANP, register 4 (R23). -/
  scanp : Scanp
  /-- PHASE, STATUS[3:0], the program counter (R24). -/
  phase : BitVec 4
  /-- MODE, STATUS[5:4] (R25). -/
  mode : BitVec 2
  /-- CUR, register 5 (R45). -/
  cur : Word
  /-- SYNC_POS, register 6 (R45). -/
  syncPos : Word
  /-- SI, register 12 (R45). -/
  si : Word
  /-- COUNT, register 13 (R45). -/
  count : Word
  /-- HDR, register 7 (R27). -/
  hdr : Hdr
  /-- SF_HZ, register 8 (R32). -/
  sfHz : BitVec 17
  /-- RAW, register 9 (R35). -/
  raw : Raw
  /-- FST, register 10 (R33). -/
  fst : Fst
  /-- ERR, register 11 (R36). -/
  err : Err
  /-- BUF, the input buffer (R60). -/
  buf : Memory
  /-- The model's own: the host's actions still to come, first one next. -/
  host : List HostAct
  /-- The model's own: the value the host was last given, by a register read or by `read_bit` or `read_bits`. -/
  dataOut : Word
  deriving DecidableEq, Repr

/-- Why the machine stops with a fault. -/
inductive Fault where
  /-- Raised by every `MemRead` at an offset at or above LEN (R61: "is not defined and no rule performs it"). Safe: the
  machine stops where the spec defines nothing, and R62 says that no run gets there. -/
  | bufferOutOfRange (offset : Nat)
  deriving DecidableEq, Repr

/-- Why a step has no meaning. -/
inductive Refusal where
  /-- Only in an arm of `exec` whose instruction has no meaning yet; no arm is left so. Safe. -/
  | notModelled (mnemonic : String)
  /-- Raised by the phase codes 11 to 15, for which the spec defines no step (R24). Safe: no state a run reaches has one. -/
  | reservedPhase (code : Nat)
  /-- Raised by every accepted command while LEN = 2^32 - 1 (R21, item U6 of 93_implementation_defined.md). Safe. -/
  | lengthTooLarge
  /-- Raised by `read_bit` and `read_bits` outside their contract (R122, item U1). Safe. -/
  | outOfContract
  /-- Raised by a load of the buffer while a run is in progress (R66, item U4). Safe. -/
  | bufferWriteWhileBusy
  /-- Raised by a load of more bytes than the largest buffer holds (R21, D2). Safe. -/
  | bufferTooLong
  /-- Raised by a step whose number is no row of its table; only `present` can bring one up. Safe. -/
  | undecodable (e : DecodeError)
  deriving DecidableEq, Repr

/-- R43: the state right after reset. The fourteen registers are the spec's table; an empty buffer, no pending host action
and a zero `dataOut` are the model's (notes/assumptions/1.md). -/
def State.reset : State where
  len := 0
  srcOk := 0
  scanp := ⟨0, 0⟩
  phase := 0
  mode := 0
  cur := 0
  syncPos := 0
  si := 0
  count := 0
  hdr := ⟨0, 0, 0, 0⟩
  sfHz := 0
  raw := ⟨0, 0, 0, 0, 0, 0⟩
  fst := ⟨.none, .none, .none, .none, .none, .none, .none, .none⟩
  err := ⟨false, false, false, false, false, false, false, false⟩
  buf := []
  host := []
  dataOut := 0

end Sys2Proof.Machine
end

