-- ==== Sys2Proof/Machine/Ops.lean ====
section
/-! DEFINITION. The named operations: one update per register, the buffer's reads and writes, the sync and scan moves of
the cursors, what raising an error changes (R190, R191), reset, and the two tests a command makes before it runs. -/

namespace Sys2Proof.Machine

/-! Register updates, one per field of State. -/

/-- LEN <- v. -/
def State.setLen (s : State) (v : Word) : State := { s with len := v }
/-- CFG.SRC_OK <- v. -/
def State.setSrcOk (s : State) (v : BitVec 1) : State := { s with srcOk := v }
/-- SCANP <- v. -/
def State.setScanp (s : State) (v : Scanp) : State := { s with scanp := v }
/-- PHASE <- v. -/
def State.setPhase (s : State) (v : BitVec 4) : State := { s with phase := v }
/-- MODE <- v. -/
def State.setMode (s : State) (v : BitVec 2) : State := { s with mode := v }
/-- CUR <- v. -/
def State.setCur (s : State) (v : Word) : State := { s with cur := v }
/-- SYNC_POS <- v. -/
def State.setSyncPos (s : State) (v : Word) : State := { s with syncPos := v }
/-- SI <- v. -/
def State.setSi (s : State) (v : Word) : State := { s with si := v }
/-- COUNT <- v. -/
def State.setCount (s : State) (v : Word) : State := { s with count := v }
/-- HDR <- v. -/
def State.setHdr (s : State) (v : Hdr) : State := { s with hdr := v }
/-- SF_HZ <- v. -/
def State.setSfHz (s : State) (v : BitVec 17) : State := { s with sfHz := v }
/-- RAW <- v. -/
def State.setRaw (s : State) (v : Raw) : State := { s with raw := v }
/-- FST <- v. -/
def State.setFst (s : State) (v : Fst) : State := { s with fst := v }
/-- ERR <- v. -/
def State.setErr (s : State) (v : Err) : State := { s with err := v }
/-- The buffer's contents <- v. -/
def State.setBuf (s : State) (v : Memory) : State := { s with buf := v }
/-- The host's pending actions <- v. -/
def State.setHost (s : State) (v : List HostAct) : State := { s with host := v }
/-- The value the host is given <- v. -/
def State.setDataOut (s : State) (v : Word) : State := { s with dataOut := v }

/-! Phase codes of R24, and the modes of R25. -/

/-- R24, code 0. -/
@[simp] abbrev Phase.idle : BitVec 4 := 0#4
/-- R24, code 1. -/
@[simp] abbrev Phase.sync : BitVec 4 := 1#4
/-- R24, code 2. -/
@[simp] abbrev Phase.ver : BitVec 4 := 2#4
/-- R24, code 3. -/
@[simp] abbrev Phase.layer : BitVec 4 := 3#4
/-- R24, code 4. -/
@[simp] abbrev Phase.prot : BitVec 4 := 4#4
/-- R24, code 5. -/
@[simp] abbrev Phase.profile : BitVec 4 := 5#4
/-- R24, code 6. -/
@[simp] abbrev Phase.sfi : BitVec 4 := 6#4
/-- R24, code 7. -/
@[simp] abbrev Phase.priv : BitVec 4 := 7#4
/-- R24, code 8. -/
@[simp] abbrev Phase.chan : BitVec 4 := 8#4
/-- R24, code 9. -/
@[simp] abbrev Phase.scan : BitVec 4 := 9#4
/-- R24, code 10. -/
@[simp] abbrev Phase.done : BitVec 4 := 10#4
/-- R25: no command since reset or CLEAR. -/
@[simp] abbrev Mode.none : BitVec 2 := 0#2
/-- R25: DECODE. -/
@[simp] abbrev Mode.decode : BitVec 2 := 1#2
/-- R25: SCAN. -/
@[simp] abbrev Mode.scan : BitVec 2 := 2#2
/-- R25: RUN. -/
@[simp] abbrev Mode.run : BitVec 2 := 3#2

/-! The buffer. -/

/-- The byte a load has written at offset `a`, if any. -/
def Memory.read? : Memory → Nat → Option Byte
  | [], _ => .none
  | (k, b) :: rest, a => if k = a then some b else Memory.read? rest a

/-- Write one byte, keeping the offsets strictly rising. -/
def Memory.write : Memory → Nat → Byte → Memory
  | [], a, b => [(a, b)]
  | (k, c) :: rest, a, b =>
    if a < k then (a, b) :: (k, c) :: rest
    else if a = k then (a, b) :: rest
    else (k, c) :: Memory.write rest a b

/-- Write the bytes at offsets `a`, `a + 1`, ... (R94: `BUF = [b0 b1 ...]`). -/
def Memory.load : Memory → Nat → List Byte → Memory
  | m, _, [] => m
  | m, a, b :: bs => Memory.load (m.write a b) (a + 1) bs

/-- Every listed offset is above `lo`, they rise strictly, and each lies in the largest buffer. -/
def Memory.rising : Nat → Memory → Bool
  | _, [] => true
  | lo, (k, _) :: rest => decide (lo ≤ k) && decide (k < Config.lenMax) && Memory.rising (k + 1) rest

/-- The canonical form: offsets strictly rising and below `LEN_MAX`. An unlisted offset has no written byte, so no entry
can equal what it holds. -/
def Memory.wf (m : Memory) : Bool := Memory.rising 0 m

/-- BUF[a]: what the host's memory holds at `a`, a free value where no load has written (notes/assumptions/3.md). -/
def State.bufByte (s : State) (a : Nat) : Byte := (s.buf.read? a).getD (Config.unloadedByte a)

/-- `MemRead(a, 1)` of R61 followed by `k`: defined for `a` below LEN only. -/
def withByte (a : Nat) (s : State) (k : Byte → Host.Outcome State Fault Refusal) :
    Host.Outcome State Fault Refusal :=
  if a < s.len.toNat then k (s.bufByte a) else .fault (.bufferOutOfRange a)

/-! Raising an error. -/

/-- The eight causes, R190. -/
inductive Cause where
  | syncNotFound
  | invalidLayer
  | invalidProfile
  | invalidSamplingFrequency
  | invalidChannelConfig
  | sourceUnavailable
  | emptyInput
  | truncated
  deriving DecidableEq, Repr

/-- R190: the cause codes. -/
def Cause.code : Cause → Nat
  | .syncNotFound => 1
  | .invalidLayer => 2
  | .invalidProfile => 3
  | .invalidSamplingFrequency => 4
  | .invalidChannelConfig => 5
  | .sourceUnavailable => 6
  | .emptyInput => 7
  | .truncated => 8

/-- ERR with the flag of one cause set, the others kept (R36: sticky). -/
def Err.set (e : Err) : Cause → Err
  | .syncNotFound => { e with syncNotFound := true }
  | .invalidLayer => { e with invalidLayer := true }
  | .invalidProfile => { e with invalidProfile := true }
  | .invalidSamplingFrequency => { e with invalidSamplingFrequency := true }
  | .invalidChannelConfig => { e with invalidChannelConfig := true }
  | .sourceUnavailable => { e with sourceUnavailable := true }
  | .emptyInput => { e with emptyInput := true }
  | .truncated => { e with truncated := true }

/-- Raising an error: exactly the row of R190 (R201). The five errors that belong to a field write that field's status and
failure value; the status that goes with the other three depends on the command or step that raises them, which writes it
itself. Control goes nowhere (R191): the next phase is the raiser's affair. -/
def raise (c : Cause) (s : State) : State :=
  let s' := s.setErr (s.err.set c)
  match c with
  | .syncNotFound =>
    s'.setFst { s.fst with
      sync := .invalid, ver := .unread, layer := .unread, crc := .unread, prof := .unread, sf := .unread, cc := .unread }
  | .invalidLayer => s'.setFst { s.fst with layer := .invalid }
  | .invalidProfile => (s'.setFst { s.fst with prof := .invalid }).setHdr { s.hdr with profile := 0 }
  | .invalidSamplingFrequency => (s'.setFst { s.fst with sf := .invalid }).setSfHz 0
  | .invalidChannelConfig => (s'.setFst { s.fst with cc := .invalid }).setHdr { s.hdr with chan := 8 }
  | .sourceUnavailable => s'
  | .emptyInput => s'
  | .truncated => s'

/-! Shared moves. -/

/-- CUR <- CUR + 1: the only way the decoder's cursor moves in a run (R45). -/
def advance (s : State) : State := s.setCur (s.cur + 1)

/-- R172, R174, R179: every result and working register to its reset value. -/
def clearResults (s : State) : State :=
  (((((((((s.setCur 0).setSyncPos 0).setSi 0).setCount 0).setHdr State.reset.hdr).setSfHz 0).setRaw
    State.reset.raw).setFst State.reset.fst).setErr State.reset.err)

/-- R220: every register to the value of R43; the buffer and the host's side are not touched. -/
def resetRegs (s : State) : State :=
  ((State.reset.setBuf s.buf).setHost s.host).setDataOut s.dataOut

/-- R37: BUSY, PHASE is one of SYNC to SCAN. -/
def isBusy (s : State) : Bool := decide (1 ≤ s.phase.toNat) && decide (s.phase.toNat ≤ 9)

/-- R37: DONE, PHASE is DONE. -/
def isDone (s : State) : Bool := decide (s.phase = Phase.done)

/-- A command written to CTRL: ignored while BUSY (R170, R176); accepted otherwise, and then refused if LEN is the one
value that is not legal (R21, U6: notes/assumptions/4.md), else `effect` in one step. -/
def acceptCommand (effect : State → State) (s : State) : Host.Outcome State Fault Refusal :=
  if isBusy s then .next s
  else if s.len = 4294967295#32 then .refused .lengthTooLarge
  else .next (effect s)

end Sys2Proof.Machine
end

