-- ==== Sys2Proof/Machine/Operands.lean ====
section
/-! DEFINITION. How raw field values are assembled from header bytes (R84), the two bit-field functions they are built
from (R120, R121), the enumerations with their codes (R28, R30, R31), the value tables (R85, R86, R87) and the two
two-byte tests (R89, R161). -/

namespace Sys2Proof.Machine

/-- R120: `offset` counts from the most-significant bit. -/
def readBit (byte : Byte) (offset : Nat) : Byte := (byte >>> (7 - offset)) &&& 1#8

/-- R121: `offset` counts from the least-significant bit; `byte[offset]` has weight 1 in the result. -/
def readBits (byte : Byte) (offset count : Nat) : Byte := BitVec.ofNat 8 (byte.toNat / 2 ^ offset % 2 ^ count)

/-- R84 (a): the MPEG version bit of `hb1`. -/
def hb1Ver (b : Byte) : BitVec 1 := (readBit b 4).setWidth 1

/-- R84 (b): the two layer bits of `hb1` as RAW.LAYER holds them, `(l5 << 1) | l6`. -/
def hb1Layer (b : Byte) : BitVec 2 := ((readBit b 5 <<< 1) ||| readBit b 6).setWidth 2

/-- R84 (c): the protection-absent bit of `hb1`. -/
def hb1Prot (b : Byte) : BitVec 1 := (readBit b 7).setWidth 1

/-- R84 (d): the profile field of `hb2`. -/
def hb2Profile (b : Byte) : BitVec 2 := (readBits b 0 2).setWidth 2

/-- R84 (e): the sampling-frequency index of `hb2`. -/
def hb2Sfi (b : Byte) : BitVec 4 := (readBits b 2 4).setWidth 4

/-- R84 (f): the private bit of `hb2`. -/
def hb2Private (b : Byte) : BitVec 1 := (readBits b 6 1).setWidth 1

/-- R84 (g): the high bit of the channel configuration, from `hb2`. -/
def hb2ChanHigh (b : Byte) : BitVec 1 := (readBits b 7 1).setWidth 1

/-- R84 (g): the two low bits of the channel configuration, from `hb3`. -/
def hb3ChanLow (b : Byte) : BitVec 2 := (readBits b 0 2).setWidth 2

/-- R84 (g): `(h << 2) | cc`. -/
def chanValue (h : BitVec 1) (cc : BitVec 2) : BitVec 3 := (h.setWidth 3 <<< 2) ||| cc.setWidth 3

/-- `mpeg_version`, R28. -/
inductive MpegVersion where
  | mpeg4
  | mpeg2
  deriving DecidableEq, Repr

/-- R28: the member a version bit stands for. -/
def MpegVersion.ofCode (v : BitVec 1) : MpegVersion := if v = 0 then .mpeg4 else .mpeg2

/-- `profile`, R30. -/
inductive Profile where
  | unknown
  | main
  | lc
  | ssr
  | ltp
  deriving DecidableEq, Repr

/-- R30: the codes of HDR.PROFILE. -/
def Profile.code : Profile → BitVec 3
  | .unknown => 0
  | .main => 1
  | .lc => 2
  | .ssr => 3
  | .ltp => 4

/-- `PROFMAP`, R85, total on 3-bit values. -/
def profMap (raw : BitVec 3) : Profile :=
  match raw.toNat with
  | 1 => .main
  | 2 => .lc
  | 3 => .ssr
  | 4 => .ltp
  | _ => .unknown

/-- `channel_configuration`, R31. -/
inductive ChannelConfig where
  | inbandPce
  | frontCenter
  | frontLr
  | frontClr
  | quad
  | five
  | fiveOneLfe
  | sevenOneLfe
  | reserved
  deriving DecidableEq, Repr

/-- R31: the codes of HDR.CHAN. -/
def ChannelConfig.code : ChannelConfig → BitVec 4
  | .inbandPce => 0
  | .frontCenter => 1
  | .frontLr => 2
  | .frontClr => 3
  | .quad => 4
  | .five => 5
  | .fiveOneLfe => 6
  | .sevenOneLfe => 7
  | .reserved => 8

/-- `CCMAP`, R87, total on 4-bit values. -/
def ccMap (raw : BitVec 4) : ChannelConfig :=
  match raw.toNat with
  | 0 => .inbandPce
  | 1 => .frontCenter
  | 2 => .frontLr
  | 3 => .frontClr
  | 4 => .quad
  | 5 => .five
  | 6 => .fiveOneLfe
  | 7 => .sevenOneLfe
  | _ => .reserved

/-- `SFTAB`, R86: the hertz value of an index, none for 13, 14 and 15. -/
def sfMap (idx : BitVec 4) : Option (BitVec 17) := Config.sfTab[idx.toNat]?

/-- R89, R131: `b0 == 0xFF and b1[7:4] == 0xF`. -/
def isCandidate (b0 b1 : Byte) : Bool := decide (b0 = 0xFF#8) && decide (b1 >>> 4 = 0xF#8)

/-- R161: the five conditions of a scanner match, in the spec's order. -/
def isPattern (b0 b1 : Byte) (p : Scanp) : Bool :=
  decide (b0 = 0xFF#8) && decide (b1 >>> 4 = 0xF#8) && decide ((readBit b1 4).setWidth 1 = p.ver)
    && (decide (readBit b1 5 = 0) && decide (readBit b1 6 = 0)) && decide ((readBit b1 7).setWidth 1 = 1 - p.crc)

/-- R90: `E(VER, CRC) = 0xF0 | (VER << 3) | (1 - CRC)`. -/
def patternByte (p : Scanp) : Byte := 0xF0#8 ||| (p.ver.setWidth 8 <<< 3) ||| (1 - p.crc).setWidth 8

end Sys2Proof.Machine
end

