-- ==== Sys2Proof/Machine/Flags.lean ====
section
/-! DEFINITION. The flags: the statuses of FST (R33) and the sticky flags of ERR (R36). What each value table writes when
its field has a given raw value: the value field, the status, and on failure the error's row of R190 (R85 to R88). Then the
register words as the host sees them (R27, R32, R33, R35 to R40) and `HeaderInfo` as options (R34). -/

namespace Sys2Proof.Machine

/-- R88, R132: HDR.VER <- v; FST.VER <- OK. -/
def applyVer (v : BitVec 1) (s : State) : State :=
  (s.setHdr { s.hdr with ver := v }).setFst { s.fst with ver := .ok }

/-- R88, R133: OK when both layer bits are 0, else `InvalidLayer`. -/
def applyLayer (l : BitVec 2) (s : State) : State :=
  if l = 0 then s.setFst { s.fst with layer := .ok } else raise .invalidLayer s

/-- R88, R134: HDR.CRC <- 1 - p; FST.CRC <- OK. -/
def applyProt (p : BitVec 1) (s : State) : State :=
  (s.setHdr { s.hdr with crc := 1 - p }).setFst { s.fst with crc := .ok }

/-- R85, R135: the member's code and OK, or `InvalidProfile` for a raw value whose member is Unknown. -/
def applyProfile (raw : BitVec 3) (s : State) : State :=
  if profMap raw = .unknown then raise .invalidProfile s
  else (s.setHdr { s.hdr with profile := (profMap raw).code }).setFst { s.fst with prof := .ok }

/-- R86, R136: the hertz value and OK, or `InvalidSamplingFrequency`. -/
def applySfi (idx : BitVec 4) (s : State) : State :=
  match sfMap idx with
  | some hz => (s.setSfHz hz).setFst { s.fst with sf := .ok }
  | none => raise .invalidSamplingFrequency s

/-- R87, R138: the member's code and OK, or `InvalidChannelConfig` for a raw value whose member is Reserved. -/
def applyChan (raw : BitVec 4) (s : State) : State :=
  if ccMap raw = .reserved then raise .invalidChannelConfig s
  else (s.setHdr { s.hdr with chan := (ccMap raw).code }).setFst { s.fst with cc := .ok }

/-! Register words. -/

/-- R33: the 2-bit status codes. -/
def Status.code : Status → BitVec 2
  | .none => 0
  | .ok => 1
  | .invalid => 2
  | .unread => 3

/-- R23: SCANP as a word. -/
def Scanp.word (p : Scanp) : Word := (0#30 ++ p.crc ++ p.ver : BitVec 32)

/-- R27: HDR as a word. -/
def Hdr.word (h : Hdr) : Word := (0#23 ++ h.chan ++ h.profile ++ h.crc ++ h.ver : BitVec 32)

/-- R35: RAW as a word. -/
def Raw.word (r : Raw) : Word := (0#19 ++ r.cc ++ r.sfi ++ r.prof ++ r.pa ++ r.layer ++ r.ver : BitVec 32)

/-- R33: FST as a word. -/
def Fst.word (f : Fst) : Word :=
  (0#16 ++ f.scan.code ++ f.cc.code ++ f.sf.code ++ f.prof.code ++ f.crc.code ++ f.layer.code ++ f.ver.code
    ++ f.sync.code : BitVec 32)

/-- R36: ERR as a word, bit n the flag of cause n. -/
def Err.word (e : Err) : Word :=
  (0#23 ++ BitVec.ofBool e.truncated ++ BitVec.ofBool e.emptyInput ++ BitVec.ofBool e.sourceUnavailable
    ++ BitVec.ofBool e.invalidChannelConfig ++ BitVec.ofBool e.invalidSamplingFrequency
    ++ BitVec.ofBool e.invalidProfile ++ BitVec.ofBool e.invalidLayer ++ BitVec.ofBool e.syncNotFound
    ++ 0#1 : BitVec 32)

/-- R37: STATUS, a view of PHASE, MODE and ERR. -/
def statusWord (s : State) : Word :=
  (0#22 ++ BitVec.ofBool (decide (s.err.word ≠ 0)) ++ BitVec.ofBool (s.err.sourceUnavailable || s.err.emptyInput)
    ++ BitVec.ofBool (isDone s) ++ BitVec.ofBool (isBusy s) ++ s.mode ++ s.phase : BitVec 32)

/-- R39, R40, R181: the 32-bit value a read of register `idx` returns. -/
def regWord (s : State) (idx : Nat) : Word :=
  match idx with
  | 1 => statusWord s
  | 2 => s.len
  | 3 => s.srcOk.setWidth 32
  | 4 => s.scanp.word
  | 5 => s.cur
  | 6 => s.syncPos
  | 7 => s.hdr.word
  | 8 => s.sfHz.setWidth 32
  | 9 => s.raw.word
  | 10 => s.fst.word
  | 11 => s.err.word
  | 12 => s.si
  | 13 => s.count
  | _ => 0

/-- R181, R176: a write of register `idx` other than CTRL. Only LEN, CFG and SCANP take it, and none of them while BUSY. -/
def writeReg (idx : Nat) (v : Word) (s : State) : State :=
  if isBusy s then s
  else
    match idx with
    | 2 => s.setLen v
    | 3 => s.setSrcOk (v.setWidth 1)
    | 4 => s.setScanp ⟨v.extractLsb' 0 1, v.extractLsb' 1 1⟩
    | _ => s

/-- `HeaderInfo` of R27 with an option per field, `some` exactly when the field's status is OK (R34). -/
structure HeaderInfo where
  mpegVersion : Option MpegVersion
  crcPresent : Option Bool
  profile : Option Profile
  samplingFrequencyHz : Option Nat
  channelConfiguration : Option ChannelConfig
  deriving DecidableEq, Repr

/-- The value `v` when the status is OK, absent otherwise (R34). -/
def Status.guard {α : Type} (st : Status) (v : α) : Option α := if st = .ok then some v else Option.none

/-- R34: the record the registers stand for. -/
def headerInfo (s : State) : HeaderInfo where
  mpegVersion := s.fst.ver.guard (.ofCode s.hdr.ver)
  crcPresent := s.fst.crc.guard (decide (s.hdr.crc = 1))
  profile := s.fst.prof.guard (profMap s.hdr.profile)
  samplingFrequencyHz := s.fst.sf.guard s.sfHz.toNat
  channelConfiguration := s.fst.cc.guard (ccMap s.hdr.chan)

end Sys2Proof.Machine
end

