-- ==== Sys2Proof/Machine/Commands.lean ====
section
/-! DEFINITION. The host commands (R170 to R175, R179) and the phases in which no step is enabled (R171, R24). -/

namespace Sys2Proof.Machine

/-- The two fatal conditions and the start of a run that begins with the decoder, R172 and R174; `fatal` is what goes with
a fatal error besides its flag. -/
def startDecode (fatal : State → State) (s : State) : State :=
  if s.srcOk = 0 then (fatal (raise .sourceUnavailable s)).setPhase Phase.done
  else if s.len = 0 then (fatal (raise .emptyInput s)).setPhase Phase.done
  else s.setPhase Phase.sync

/-- FST.SCAN <- UNREAD: the scan was not performed (R33). -/
def scanUnread (s : State) : State := s.setFst { s.fst with scan := .unread }

/-- R172. -/
def startDecodeOnly (s : State) : State := startDecode id (clearResults (s.setMode Mode.decode))

/-- R174. -/
def startRun (s : State) : State := startDecode scanUnread (clearResults (s.setMode Mode.run))

/-- R173: nothing but MODE, SI, COUNT and FST.SCAN is cleared; LEN = 0 is no error. -/
def startScan (s : State) : State :=
  let s' := (((s.setMode Mode.scan).setSi 0).setCount 0).setFst { s.fst with scan := .none }
  if s.srcOk = 0 then (scanUnread (raise .sourceUnavailable s')).setPhase Phase.done
  else s'.setPhase Phase.scan

/-- R179. -/
def forget (s : State) : State := (clearResults (s.setMode Mode.none)).setPhase Phase.idle

/-- NOP, R170. -/
def execCmdNop (s : State) : Host.Outcome State Fault Refusal := acceptCommand id s

/-- DECODE, R172. -/
def execCmdDecode (s : State) : Host.Outcome State Fault Refusal := acceptCommand startDecodeOnly s

/-- SCAN as a command, R173. -/
def execCmdScan (s : State) : Host.Outcome State Fault Refusal := acceptCommand startScan s

/-- RUN, R174. -/
def execCmdRun (s : State) : Host.Outcome State Fault Refusal := acceptCommand startRun s

/-- CLEAR, R179. -/
def execCmdClear (s : State) : Host.Outcome State Fault Refusal := acceptCommand forget s

/-- Reserved command code 5, R170: changes nothing. -/
def execCmdReserved5 (s : State) : Host.Outcome State Fault Refusal := acceptCommand id s

/-- Reserved command code 6, R170: changes nothing. -/
def execCmdReserved6 (s : State) : Host.Outcome State Fault Refusal := acceptCommand id s

/-- Reserved command code 7, R170: changes nothing. -/
def execCmdReserved7 (s : State) : Host.Outcome State Fault Refusal := acceptCommand id s

/-- IDLE, R171: the block waits, nothing changes. -/
def execIdle (s : State) : Host.Outcome State Fault Refusal := .next s

/-- DONE, R171, R41: the block waits, nothing changes. -/
def execDone (s : State) : Host.Outcome State Fault Refusal := .next s

/-- Phase code 11, R24: reserved, no step is defined. -/
def execPhaseReserved11 (_s : State) : Host.Outcome State Fault Refusal := .refused (.reservedPhase 11)

/-- Phase code 12, R24: reserved, no step is defined. -/
def execPhaseReserved12 (_s : State) : Host.Outcome State Fault Refusal := .refused (.reservedPhase 12)

/-- Phase code 13, R24: reserved, no step is defined. -/
def execPhaseReserved13 (_s : State) : Host.Outcome State Fault Refusal := .refused (.reservedPhase 13)

/-- Phase code 14, R24: reserved, no step is defined. -/
def execPhaseReserved14 (_s : State) : Host.Outcome State Fault Refusal := .refused (.reservedPhase 14)

/-- Phase code 15, R24: reserved, no step is defined. -/
def execPhaseReserved15 (_s : State) : Host.Outcome State Fault Refusal := .refused (.reservedPhase 15)

end Sys2Proof.Machine
end

