-- ==== Sys2Proof/Machine/Decoder.lean ====
section
/-! DEFINITION. The HeaderDecoder: the eight steps SYNC to CHAN (R131 to R139), each as the part that reads the buffer and
the part that acts on the bits read; the second parts composed are the whole-header row `ADTS_HEADER` (R81, R141). -/

namespace Sys2Proof.Machine

/-! What each step does with the bits it has read. -/

/-- R131, the arm that accepts: SYNC_POS <- CUR; CUR <- CUR + 1; FST.SYNC <- OK; PHASE <- VER. -/
def syncFound (s : State) : State :=
  (((advance s).setSyncPos s.cur).setFst { s.fst with sync := .ok }).setPhase Phase.ver

/-- R131: the pair of bytes at CUR, accepted or passed over. -/
def syncPair (b0 b1 : Byte) (s : State) : State :=
  if isCandidate b0 b1 then syncFound s else advance s

/-- R131, no pair of bytes is left: `SyncNotFound`, and in a RUN the scan is not performed. -/
def syncFail (s : State) : State :=
  let s' := raise .syncNotFound s
  let s'' := if s.mode = Mode.run then s'.setFst { s'.fst with scan := .unread } else s'
  s''.setPhase Phase.done

/-- R132 on the bit read. -/
def verBits (v : BitVec 1) (s : State) : State :=
  ((applyVer v s).setRaw { s.raw with ver := v }).setPhase Phase.layer

/-- R133 on the two bits read. -/
def layerBits (l : BitVec 2) (s : State) : State :=
  ((applyLayer l s).setRaw { s.raw with layer := l }).setPhase Phase.prot

/-- R134 on the bit read. -/
def protBits (p : BitVec 1) (s : State) : State :=
  ((applyProt p s).setRaw { s.raw with pa := p }).setPhase Phase.profile

/-- R135 on the two bits read, the cursor's advance included. -/
def profileBits (p : BitVec 2) (s : State) : State :=
  ((applyProfile (p.setWidth 3) (advance s)).setRaw { s.raw with prof := p }).setPhase Phase.sfi

/-- R135 when `hb2` does not exist: the cursor still advances (D13). -/
def profileTruncated (s : State) : State :=
  ((raise .truncated (advance s)).setFst { s.fst with prof := .unread }).setPhase Phase.sfi

/-- R136 on the four bits read. -/
def sfiBits (i : BitVec 4) (s : State) : State :=
  ((applySfi i s).setRaw { s.raw with sfi := i }).setPhase Phase.priv

/-- R136 when `hb2` does not exist. -/
def sfiTruncated (s : State) : State :=
  ((raise .truncated s).setFst { s.fst with sf := .unread }).setPhase Phase.priv

/-- R137 on the bit read, which is discarded. -/
def privBits (_x : BitVec 1) (s : State) : State := s.setPhase Phase.chan

/-- R139: the exit of the decoder, into the scanner in a RUN. -/
def decoderExit (s : State) : State :=
  if s.mode = Mode.run then
    (((s.setScanp ⟨s.hdr.ver, s.hdr.crc⟩).setSi 0).setCount 0).setPhase Phase.scan
  else s.setPhase Phase.done

/-- R138 on the three bits read, the cursor's advance and the exit included. -/
def chanBits (n : BitVec 3) (s : State) : State :=
  decoderExit ((applyChan (n.setWidth 4) (advance s)).setRaw { s.raw with cc := n })

/-- R138 when `hb3` does not exist: the cursor still advances (D13). -/
def chanTruncated (s : State) : State :=
  decoderExit ((raise .truncated (advance s)).setFst { s.fst with cc := .unread })

/-! The steps. -/

/-- SYNC, R131. -/
def execSync (s : State) : Host.Outcome State Fault Refusal :=
  if s.cur.toNat + 1 < s.len.toNat then
    withByte s.cur.toNat s fun b0 =>
      withByte (s.cur.toNat + 1) s fun b1 => .next (syncPair b0 b1 s)
  else .next (syncFail s)

/-- VER, R132. -/
def execVer (s : State) : Host.Outcome State Fault Refusal :=
  withByte s.cur.toNat s fun b => .next (verBits (hb1Ver b) s)

/-- LAYER, R133. -/
def execLayer (s : State) : Host.Outcome State Fault Refusal :=
  withByte s.cur.toNat s fun b => .next (layerBits (hb1Layer b) s)

/-- PROT, R134. -/
def execProt (s : State) : Host.Outcome State Fault Refusal :=
  withByte s.cur.toNat s fun b => .next (protBits (hb1Prot b) s)

/-- PROFILE, R135. -/
def execProfile (s : State) : Host.Outcome State Fault Refusal :=
  if s.cur.toNat + 1 < s.len.toNat then
    withByte (s.cur.toNat + 1) s fun b => .next (profileBits (hb2Profile b) s)
  else .next (profileTruncated s)

/-- SFI, R136. -/
def execSfi (s : State) : Host.Outcome State Fault Refusal :=
  if s.cur.toNat < s.len.toNat then
    withByte s.cur.toNat s fun b => .next (sfiBits (hb2Sfi b) s)
  else .next (sfiTruncated s)

/-- PRIV, R137. -/
def execPriv (s : State) : Host.Outcome State Fault Refusal :=
  if s.cur.toNat < s.len.toNat then
    withByte s.cur.toNat s fun b => .next (privBits (hb2Private b) s)
  else .next (s.setPhase Phase.chan)

/-- CHAN, R138 and R139. -/
def execChan (s : State) : Host.Outcome State Fault Refusal :=
  if s.cur.toNat + 1 < s.len.toNat then
    withByte s.cur.toNat s fun b2 =>
      withByte (s.cur.toNat + 1) s fun b3 =>
        .next (chanBits (chanValue (hb2ChanHigh b2) (hb3ChanLow b3)) s)
  else .next (chanTruncated s)

/-! The rows of whole patterns that belong to the decoder. -/

/-- SYNC_CANDIDATE, R89: what SYNC does with this pair of bytes at CUR (R131; notes/assumptions/2.md). -/
def execSyncCandidate (low : BitVec 4) (s : State) : Host.Outcome State Fault Refusal :=
  .next (syncPair 0xFF#8 (0xF0#8 ||| low.setWidth 8) s)

/-- ADTS_HEADER, R81: what the eight steps do with this header at CUR (R141, D32; notes/assumptions/2.md). The private bit
`x` and the thirty unread bits `u6`, `u24` go nowhere (R82, R137). -/
def execAdtsHeader (v : BitVec 1) (l : BitVec 2) (p h x : BitVec 1) (ssss : BitVec 4) (pp : BitVec 2) (_u6 : BitVec 6)
    (cc : BitVec 2) (_u24 : BitVec 24) (s : State) : Host.Outcome State Fault Refusal :=
  .next (chanBits (chanValue h cc) (privBits x (sfiBits ssss (profileBits pp (protBits p (layerBits l (verBits v
    (syncFound s))))))))

end Sys2Proof.Machine
end

