-- ==== Sys2Proof/Machine/Fields.lean ====
section
/-! DEFINITION. The rows of the value tables, one raw value each (R85 to R88). The meaning of a row is what its table says
of it: the value field's code, the status, and on failure the error's flag. The cursor, RAW and PHASE belong to the step
that reads the field, not to the row (notes/assumptions/2.md). -/

namespace Sys2Proof.Machine

/-- VER=0, R88. -/
def execVer0 (s : State) : Host.Outcome State Fault Refusal := .next (applyVer 0 s)

/-- VER=1, R88. -/
def execVer1 (s : State) : Host.Outcome State Fault Refusal := .next (applyVer 1 s)

/-- PROT=0, R88. -/
def execProt0 (s : State) : Host.Outcome State Fault Refusal := .next (applyProt 0 s)

/-- PROT=1, R88. -/
def execProt1 (s : State) : Host.Outcome State Fault Refusal := .next (applyProt 1 s)

/-- LAYER=0, R88. -/
def execLayer0 (s : State) : Host.Outcome State Fault Refusal := .next (applyLayer 0 s)

/-- LAYER=1, R88. -/
def execLayer1 (s : State) : Host.Outcome State Fault Refusal := .next (applyLayer 1 s)

/-- LAYER=2, R88. -/
def execLayer2 (s : State) : Host.Outcome State Fault Refusal := .next (applyLayer 2 s)

/-- LAYER=3, R88. -/
def execLayer3 (s : State) : Host.Outcome State Fault Refusal := .next (applyLayer 3 s)

/-- PROFILE=0, R85. -/
def execProfile0 (s : State) : Host.Outcome State Fault Refusal := .next (applyProfile 0 s)

/-- PROFILE=1, R85. -/
def execProfile1 (s : State) : Host.Outcome State Fault Refusal := .next (applyProfile 1 s)

/-- PROFILE=2, R85. -/
def execProfile2 (s : State) : Host.Outcome State Fault Refusal := .next (applyProfile 2 s)

/-- PROFILE=3, R85. -/
def execProfile3 (s : State) : Host.Outcome State Fault Refusal := .next (applyProfile 3 s)

/-- PROFILE=4, R85. -/
def execProfile4 (s : State) : Host.Outcome State Fault Refusal := .next (applyProfile 4 s)

/-- PROFILE=5, R85. -/
def execProfile5 (s : State) : Host.Outcome State Fault Refusal := .next (applyProfile 5 s)

/-- PROFILE=6, R85. -/
def execProfile6 (s : State) : Host.Outcome State Fault Refusal := .next (applyProfile 6 s)

/-- PROFILE=7, R85. -/
def execProfile7 (s : State) : Host.Outcome State Fault Refusal := .next (applyProfile 7 s)

/-- SFI=0, R86. -/
def execSfi0 (s : State) : Host.Outcome State Fault Refusal := .next (applySfi 0 s)

/-- SFI=1, R86. -/
def execSfi1 (s : State) : Host.Outcome State Fault Refusal := .next (applySfi 1 s)

/-- SFI=2, R86. -/
def execSfi2 (s : State) : Host.Outcome State Fault Refusal := .next (applySfi 2 s)

/-- SFI=3, R86. -/
def execSfi3 (s : State) : Host.Outcome State Fault Refusal := .next (applySfi 3 s)

/-- SFI=4, R86. -/
def execSfi4 (s : State) : Host.Outcome State Fault Refusal := .next (applySfi 4 s)

/-- SFI=5, R86. -/
def execSfi5 (s : State) : Host.Outcome State Fault Refusal := .next (applySfi 5 s)

/-- SFI=6, R86. -/
def execSfi6 (s : State) : Host.Outcome State Fault Refusal := .next (applySfi 6 s)

/-- SFI=7, R86. -/
def execSfi7 (s : State) : Host.Outcome State Fault Refusal := .next (applySfi 7 s)

/-- SFI=8, R86. -/
def execSfi8 (s : State) : Host.Outcome State Fault Refusal := .next (applySfi 8 s)

/-- SFI=9, R86. -/
def execSfi9 (s : State) : Host.Outcome State Fault Refusal := .next (applySfi 9 s)

/-- SFI=10, R86. -/
def execSfi10 (s : State) : Host.Outcome State Fault Refusal := .next (applySfi 10 s)

/-- SFI=11, R86. -/
def execSfi11 (s : State) : Host.Outcome State Fault Refusal := .next (applySfi 11 s)

/-- SFI=12, R86. -/
def execSfi12 (s : State) : Host.Outcome State Fault Refusal := .next (applySfi 12 s)

/-- SFI=13, R86. -/
def execSfi13 (s : State) : Host.Outcome State Fault Refusal := .next (applySfi 13 s)

/-- SFI=14, R86. -/
def execSfi14 (s : State) : Host.Outcome State Fault Refusal := .next (applySfi 14 s)

/-- SFI=15, R86. -/
def execSfi15 (s : State) : Host.Outcome State Fault Refusal := .next (applySfi 15 s)

/-- CHAN=0, R87. -/
def execChan0 (s : State) : Host.Outcome State Fault Refusal := .next (applyChan 0 s)

/-- CHAN=1, R87. -/
def execChan1 (s : State) : Host.Outcome State Fault Refusal := .next (applyChan 1 s)

/-- CHAN=2, R87. -/
def execChan2 (s : State) : Host.Outcome State Fault Refusal := .next (applyChan 2 s)

/-- CHAN=3, R87. -/
def execChan3 (s : State) : Host.Outcome State Fault Refusal := .next (applyChan 3 s)

/-- CHAN=4, R87. -/
def execChan4 (s : State) : Host.Outcome State Fault Refusal := .next (applyChan 4 s)

/-- CHAN=5, R87. -/
def execChan5 (s : State) : Host.Outcome State Fault Refusal := .next (applyChan 5 s)

/-- CHAN=6, R87. -/
def execChan6 (s : State) : Host.Outcome State Fault Refusal := .next (applyChan 6 s)

/-- CHAN=7, R87. -/
def execChan7 (s : State) : Host.Outcome State Fault Refusal := .next (applyChan 7 s)

/-- CHAN=8, R87. -/
def execChan8 (s : State) : Host.Outcome State Fault Refusal := .next (applyChan 8 s)

/-- CHAN=9, R87. -/
def execChan9 (s : State) : Host.Outcome State Fault Refusal := .next (applyChan 9 s)

/-- CHAN=10, R87. -/
def execChan10 (s : State) : Host.Outcome State Fault Refusal := .next (applyChan 10 s)

/-- CHAN=11, R87. -/
def execChan11 (s : State) : Host.Outcome State Fault Refusal := .next (applyChan 11 s)

/-- CHAN=12, R87. -/
def execChan12 (s : State) : Host.Outcome State Fault Refusal := .next (applyChan 12 s)

/-- CHAN=13, R87. -/
def execChan13 (s : State) : Host.Outcome State Fault Refusal := .next (applyChan 13 s)

/-- CHAN=14, R87. -/
def execChan14 (s : State) : Host.Outcome State Fault Refusal := .next (applyChan 14 s)

/-- CHAN=15, R87. -/
def execChan15 (s : State) : Host.Outcome State Fault Refusal := .next (applyChan 15 s)

end Sys2Proof.Machine
end

