-- ==== Sys2Proof/Machine/Functions.lean ====
section
/-! DEFINITION. The two functions as operations of their own (R120, R121). They "read no register and write none"; the
result goes to the host, in the model's own field `dataOut` (notes/assumptions/1.md). -/

namespace Sys2Proof.Machine

/-- `read_bit`, R120; outside the contract no meaning (R122, U1). -/
def execReadBit (byte : Byte) (offset : Nat) (s : State) : Host.Outcome State Fault Refusal :=
  if (Instr.readBit byte offset).wf then .next (s.setDataOut ((readBit byte offset).setWidth 32))
  else .refused .outOfContract

/-- `read_bits`, R121; outside the contract no meaning (R122, U1). -/
def execReadBits (byte : Byte) (offset count : Nat) (s : State) : Host.Outcome State Fault Refusal :=
  if (Instr.readBits byte offset count).wf then .next (s.setDataOut ((readBits byte offset count).setWidth 32))
  else .refused .outOfContract

end Sys2Proof.Machine
end

