-- ==== Sys2Proof/Machine/Scanner.lean ====
section
/-! DEFINITION. The FrameScanner: the step SCAN (R162) and the four pattern rows (R90). -/

namespace Sys2Proof.Machine

/-- R162 on the pair of bytes at SI: counted if it is the pattern SCANP selects; SI advances by one in either case. -/
def scanPair (b0 b1 : Byte) (s : State) : State :=
  let s' := s.setSi (s.si + 1)
  if isPattern b0 b1 s.scanp then s'.setCount (s.count + 1) else s'

/-- R162, no pair of bytes is left: FST.SCAN <- OK; PHASE <- DONE. -/
def scanEnd (s : State) : State := (s.setFst { s.fst with scan := .ok }).setPhase Phase.done

/-- SCAN, R162. -/
def execScan (s : State) : Host.Outcome State Fault Refusal :=
  if s.si.toNat + 1 < s.len.toNat then
    withByte s.si.toNat s fun b0 =>
      withByte (s.si.toNat + 1) s fun b1 => .next (scanPair b0 b1 s)
  else .next (scanEnd s)

/-- SCAN_PATTERN_VER0_CRC0, R90: what SCAN does with `(0xFF, 0xF1)` at SI (R162; notes/assumptions/2.md). -/
def execScanPattern00 (s : State) : Host.Outcome State Fault Refusal := .next (scanPair 0xFF#8 0xF1#8 s)

/-- SCAN_PATTERN_VER0_CRC1, R90: what SCAN does with `(0xFF, 0xF0)` at SI (R162; notes/assumptions/2.md). -/
def execScanPattern01 (s : State) : Host.Outcome State Fault Refusal := .next (scanPair 0xFF#8 0xF0#8 s)

/-- SCAN_PATTERN_VER1_CRC0, R90: what SCAN does with `(0xFF, 0xF9)` at SI (R162; notes/assumptions/2.md). -/
def execScanPattern10 (s : State) : Host.Outcome State Fault Refusal := .next (scanPair 0xFF#8 0xF9#8 s)

/-- SCAN_PATTERN_VER1_CRC1, R90: what SCAN does with `(0xFF, 0xF8)` at SI (R162; notes/assumptions/2.md). -/
def execScanPattern11 (s : State) : Host.Outcome State Fault Refusal := .next (scanPair 0xFF#8 0xF8#8 s)

end Sys2Proof.Machine
end

