-- ==== Sys2Proof/Machine/Dispatch.lean ====
section
/-! DEFINITION. One arm per row of spec/opcode_table.json. -/

namespace Sys2Proof.Machine

def exec (i : Instr) (s : State) : Host.Outcome State Fault Refusal :=
  match i with
  | .readBit byte offset => Sys2Proof.Machine.execReadBit byte offset s
  | .readBits byte offset count => Sys2Proof.Machine.execReadBits byte offset count s
  | .idle => Sys2Proof.Machine.execIdle s
  | .sync => Sys2Proof.Machine.execSync s
  | .ver => Sys2Proof.Machine.execVer s
  | .layer => Sys2Proof.Machine.execLayer s
  | .prot => Sys2Proof.Machine.execProt s
  | .profile => Sys2Proof.Machine.execProfile s
  | .sfi => Sys2Proof.Machine.execSfi s
  | .priv => Sys2Proof.Machine.execPriv s
  | .chan => Sys2Proof.Machine.execChan s
  | .scan => Sys2Proof.Machine.execScan s
  | .done => Sys2Proof.Machine.execDone s
  | .phaseReserved11 => Sys2Proof.Machine.execPhaseReserved11 s
  | .phaseReserved12 => Sys2Proof.Machine.execPhaseReserved12 s
  | .phaseReserved13 => Sys2Proof.Machine.execPhaseReserved13 s
  | .phaseReserved14 => Sys2Proof.Machine.execPhaseReserved14 s
  | .phaseReserved15 => Sys2Proof.Machine.execPhaseReserved15 s
  | .cmdNop => Sys2Proof.Machine.execCmdNop s
  | .cmdDecode => Sys2Proof.Machine.execCmdDecode s
  | .cmdScan => Sys2Proof.Machine.execCmdScan s
  | .cmdRun => Sys2Proof.Machine.execCmdRun s
  | .cmdClear => Sys2Proof.Machine.execCmdClear s
  | .cmdReserved5 => Sys2Proof.Machine.execCmdReserved5 s
  | .cmdReserved6 => Sys2Proof.Machine.execCmdReserved6 s
  | .cmdReserved7 => Sys2Proof.Machine.execCmdReserved7 s
  | .adtsHeader v l p h x ssss pp u6 cc u24 => Sys2Proof.Machine.execAdtsHeader v l p h x ssss pp u6 cc u24 s
  | .syncCandidate low => Sys2Proof.Machine.execSyncCandidate low s
  | .scanPattern00 => Sys2Proof.Machine.execScanPattern00 s
  | .scanPattern01 => Sys2Proof.Machine.execScanPattern01 s
  | .scanPattern10 => Sys2Proof.Machine.execScanPattern10 s
  | .scanPattern11 => Sys2Proof.Machine.execScanPattern11 s
  | .ver0 => Sys2Proof.Machine.execVer0 s
  | .ver1 => Sys2Proof.Machine.execVer1 s
  | .prot0 => Sys2Proof.Machine.execProt0 s
  | .prot1 => Sys2Proof.Machine.execProt1 s
  | .layer0 => Sys2Proof.Machine.execLayer0 s
  | .layer1 => Sys2Proof.Machine.execLayer1 s
  | .layer2 => Sys2Proof.Machine.execLayer2 s
  | .layer3 => Sys2Proof.Machine.execLayer3 s
  | .profile0 => Sys2Proof.Machine.execProfile0 s
  | .profile1 => Sys2Proof.Machine.execProfile1 s
  | .profile2 => Sys2Proof.Machine.execProfile2 s
  | .profile3 => Sys2Proof.Machine.execProfile3 s
  | .profile4 => Sys2Proof.Machine.execProfile4 s
  | .profile5 => Sys2Proof.Machine.execProfile5 s
  | .profile6 => Sys2Proof.Machine.execProfile6 s
  | .profile7 => Sys2Proof.Machine.execProfile7 s
  | .sfi0 => Sys2Proof.Machine.execSfi0 s
  | .sfi1 => Sys2Proof.Machine.execSfi1 s
  | .sfi2 => Sys2Proof.Machine.execSfi2 s
  | .sfi3 => Sys2Proof.Machine.execSfi3 s
  | .sfi4 => Sys2Proof.Machine.execSfi4 s
  | .sfi5 => Sys2Proof.Machine.execSfi5 s
  | .sfi6 => Sys2Proof.Machine.execSfi6 s
  | .sfi7 => Sys2Proof.Machine.execSfi7 s
  | .sfi8 => Sys2Proof.Machine.execSfi8 s
  | .sfi9 => Sys2Proof.Machine.execSfi9 s
  | .sfi10 => Sys2Proof.Machine.execSfi10 s
  | .sfi11 => Sys2Proof.Machine.execSfi11 s
  | .sfi12 => Sys2Proof.Machine.execSfi12 s
  | .sfi13 => Sys2Proof.Machine.execSfi13 s
  | .sfi14 => Sys2Proof.Machine.execSfi14 s
  | .sfi15 => Sys2Proof.Machine.execSfi15 s
  | .chan0 => Sys2Proof.Machine.execChan0 s
  | .chan1 => Sys2Proof.Machine.execChan1 s
  | .chan2 => Sys2Proof.Machine.execChan2 s
  | .chan3 => Sys2Proof.Machine.execChan3 s
  | .chan4 => Sys2Proof.Machine.execChan4 s
  | .chan5 => Sys2Proof.Machine.execChan5 s
  | .chan6 => Sys2Proof.Machine.execChan6 s
  | .chan7 => Sys2Proof.Machine.execChan7 s
  | .chan8 => Sys2Proof.Machine.execChan8 s
  | .chan9 => Sys2Proof.Machine.execChan9 s
  | .chan10 => Sys2Proof.Machine.execChan10 s
  | .chan11 => Sys2Proof.Machine.execChan11 s
  | .chan12 => Sys2Proof.Machine.execChan12 s
  | .chan13 => Sys2Proof.Machine.execChan13 s
  | .chan14 => Sys2Proof.Machine.execChan14 s
  | .chan15 => Sys2Proof.Machine.execChan15 s

end Sys2Proof.Machine
end

