-- ==== Sys2Proof/Machine/HostPort.lean ====
section
/-! DEFINITION. Who moves next and on what: the number the next step decodes (R178), and the host's moves that are no row of
the table: register writes and reads, loads of the buffer, the end of a wait, reset (R181, R94, R60, R220). -/

namespace Sys2Proof.Machine

/-- The table and number the next step decodes, and the state it runs from; `none` when the next move is the host's own.
With no host action pending, or on the host's `turn`, the sequencer moves and its number is PHASE (R24, R178). A `WAIT` stays
until DONE and lets the sequencer move. A write to CTRL presents its word as a command (R170). -/
def fetch (s : State) : Option (Table × Nat × State) :=
  match s.host with
  | [] => some (.phase, s.phase.toNat, s)
  | .turn :: rest => some (.phase, s.phase.toNat, s.setHost rest)
  | .wait :: _ => if isDone s then none else some (.phase, s.phase.toNat, s)
  | .wr idx v :: rest => if idx = 0 then some (.command, v.toNat, s.setHost rest) else none
  | .present t w :: rest => some (t, w, s.setHost rest)
  | .load _ :: _ => none
  | .rd _ :: _ => none
  | .reset :: _ => none

/-- `BUF = [b0 b1 ...]`: refused while a run is in progress (R66, U4) and for more bytes than LEN can count (R21). -/
def loadBuffer (bytes : List Byte) (s : State) : Host.Outcome State Fault Refusal :=
  if isBusy s then .refused .bufferWriteWhileBusy
  else if Config.lenMax < bytes.length then .refused .bufferTooLong
  else .next (s.setBuf (s.buf.load 0 bytes))

/-- One move of the host on the state in which it is already taken off the list. -/
def hostMove (a : HostAct) (s : State) : Host.Outcome State Fault Refusal :=
  match a with
  | .load bytes => loadBuffer bytes s
  | .wr idx v => .next (writeReg idx v s)
  | .rd idx => .next (s.setDataOut (regWord s idx))
  | .wait => .next (s.setDataOut (statusWord s))
  | .reset => .next (resetRegs s)
  | .turn => .next s
  | .present _ _ => .next s

/-- The host's next move, when `fetch` gives no number. -/
def hostStep (s : State) : Host.Outcome State Fault Refusal :=
  match s.host with
  | [] => .next s
  | a :: rest => hostMove a (s.setHost rest)

/-- Put an instruction of the table where the next step finds it: a phase code into PHASE, with the sequencer's turn next;
a command word as the host's next write to CTRL; any other row as the next thing presented (notes/assumptions/2.md). -/
def placeWord (t : Table) (w : Nat) (s : State) : State :=
  match t with
  | .phase => (s.setPhase (BitVec.ofNat 4 w)).setHost (.turn :: s.host)
  | .command => s.setHost (.wr 0 (BitVec.ofNat 32 w) :: s.host)
  | .readBit | .readBits | .header | .candidate | .pattern | .verField | .protField | .layerField | .profileField
  | .sfiField | .chanField => s.setHost (.present t w :: s.host)

end Sys2Proof.Machine
end

