-- ==== Sys2Proof/Machine/Step.lean ====
section
/-! DEFINITION. One step: fetch a number, decode it, execute it; or let the host make its move (R178). -/

namespace Sys2Proof.Machine

/-- One step of the machine. -/
def step (s : State) : Host.Outcome State Fault Refusal :=
  match fetch s with
  | some (t, w, s') =>
    match decode t w with
    | .ok i => exec i s'
    | .error e => .refused (.undecodable e)
  | none => hostStep s

/-- `s` with the table's instruction of `nbits` bits and value `w` placed where `step` fetches next. -/
def State.withFetchWord (s : State) (nbits w : Nat) : State :=
  placeWord (tableWord nbits w).1 (tableWord nbits w).2 s

end Sys2Proof.Machine
end

