-- ==== Sys2Proof/Safety.lean ====
section
/-! DEFINITION. What claims about the machine are stated in: where the buffer holds a sync candidate or a pattern, how many
patterns a scan counts (R163), the decoder's report as one function of the buffer (R141), and the invariants of R42, R34
and R35, restricted to the phases in which they hold (notes/assumptions/10.md). -/

namespace Sys2Proof.Machine

/-- The outcome is a fault: the step read the buffer where R61 defines nothing. -/
def faults (o : Host.Outcome State Fault Refusal) : Bool :=
  match o with
  | .fault _ => true
  | .next _ => false
  | .refused _ => false

/-- R140: `j + 1 < LEN` and the pair at `j` is a sync candidate. -/
def candidateAt (s : State) (j : Nat) : Bool :=
  decide (j + 1 < s.len.toNat) && isCandidate (s.bufByte j) (s.bufByte (j + 1))

/-- R140: `locate_sync(BUF, LEN, 0)`, the least candidate offset. -/
def firstCandidate (s : State) : Option Nat := (List.range s.len.toNat).find? (candidateAt s)

/-- R161: `i + 1 < LEN` and the pair at `i` matches for the parameters `p`. -/
def patternAt (s : State) (p : Scanp) (i : Nat) : Bool :=
  decide (i + 1 < s.len.toNat) && isPattern (s.bufByte i) (s.bufByte (i + 1)) p

/-- How many of the positions 0 to `n - 1` match. -/
def matchesBelow (s : State) (p : Scanp) (n : Nat) : Nat := (List.range n).countP (patternAt s p)

/-- R163: `scan(BUF, LEN, VER, CRC)`. -/
def scanCount (s : State) (p : Scanp) : Nat := matchesBelow s p s.len.toNat

/-- The decoder's report: what a decode leaves in SYNC_POS, CUR, HDR, SF_HZ, RAW, the seven decoder statuses and ERR. -/
structure Report where
  syncPos : Nat
  cur : Nat
  hdr : Hdr
  sfHz : BitVec 17
  raw : Raw
  sync : Status
  ver : Status
  layer : Status
  crc : Status
  prof : Status
  sf : Status
  cc : Status
  err : Err
  deriving DecidableEq, Repr

/-- The report the registers hold. -/
def reportOf (s : State) : Report :=
  ⟨s.syncPos.toNat, s.cur.toNat, s.hdr, s.sfHz, s.raw, s.fst.sync, s.fst.ver, s.fst.layer, s.fst.crc, s.fst.prof,
    s.fst.sf, s.fst.cc, s.err⟩

/-- R141: the whole decoder as one function of the buffer, in the header's own bit positions (R81). -/
def decodeReport (s : State) : Report :=
  match firstCandidate s with
  | none =>
    { syncPos := 0, cur := s.len.toNat - 1, hdr := ⟨0, 0, 0, 0⟩, sfHz := 0, raw := ⟨0, 0, 0, 0, 0, 0⟩,
      sync := .invalid, ver := .unread, layer := .unread, crc := .unread, prof := .unread, sf := .unread, cc := .unread,
      err := ⟨true, false, false, false, false, false, false, false⟩ }
  | some j =>
    let hb1 := s.bufByte (j + 1)
    let hb2 := s.bufByte (j + 2)
    let hb3 := s.bufByte (j + 3)
    let has2 := decide (j + 2 < s.len.toNat)
    let has3 := decide (j + 3 < s.len.toNat)
    let layer : BitVec 2 := hb1.extractLsb' 1 2
    let prof : BitVec 2 := if has2 then hb2.extractLsb' 0 2 else 0
    let sfi : BitVec 4 := if has2 then hb2.extractLsb' 2 4 else 0
    let cc : BitVec 3 := if has3 then hb2.extractLsb' 7 1 ++ hb3.extractLsb' 0 2 else 0
    { syncPos := j, cur := j + 3,
      hdr := ⟨hb1.extractLsb' 3 1, 1 - hb1.extractLsb' 0 1, prof.setWidth 3, cc.setWidth 4⟩,
      sfHz := if has2 then (Config.sfTab[sfi.toNat]?).getD 0 else 0,
      raw := ⟨hb1.extractLsb' 3 1, layer, hb1.extractLsb' 0 1, prof, sfi, cc⟩,
      sync := .ok, ver := .ok, layer := if layer = 0 then .ok else .invalid, crc := .ok,
      prof := if has2 then (if prof = 0 then .invalid else .ok) else .unread,
      sf := if has2 then (if sfi.toNat ≤ 12 then .ok else .invalid) else .unread,
      cc := if has3 then .ok else .unread,
      err := ⟨false, decide (layer ≠ 0), has2 && decide (prof = 0), has2 && decide (13 ≤ sfi.toNat), false, false, false,
        !has3⟩ }

/-- A move of the spec's host, not the model's own `present`. -/
def isSpecMove (a : HostAct) : Bool :=
  match a with
  | .present _ _ => false
  | .load _ | .wr _ _ | .rd _ | .wait | .turn | .reset => true

/-- PHASE is one of the decoder's eight steps. -/
@[simp] abbrev decoding (s : State) : Prop := 1 ≤ s.phase.toNat ∧ s.phase.toNat ≤ 8

/-- A candidate has been accepted and the decoder has not left CHAN. -/
@[simp] abbrev inHeader (s : State) : Prop := 2 ≤ s.phase.toNat ∧ s.phase.toNat ≤ 8

/-- NONE or UNREAD: the field was not read. -/
@[simp] abbrev Status.notRead (st : Status) : Prop := st = .none ∨ st = .unread

/-- The host's side and the run's parameters. -/
structure ParamInv (s : State) : Prop where
  /-- R42 (f): PHASE is never a reserved code. -/
  phase_legal : s.phase.toNat ≤ 10
  /-- Only moves of the spec's host are pending. -/
  host_moves : s.host.all isSpecMove = true
  /-- A run in progress was accepted with a readable source and a legal length (R172 to R174, R21). -/
  busy_params : isBusy s = true → s.srcOk = 1 ∧ s.len ≠ 4294967295#32
  /-- The decoder runs for DECODE or RUN on a buffer of at least one byte (R172, R174). -/
  decoding_mode : decoding s → (s.mode = Mode.decode ∨ s.mode = Mode.run) ∧ 1 ≤ s.len.toNat
  /-- The scanner runs for SCAN or RUN (R173, R139). -/
  scanning_mode : s.phase = Phase.scan → s.mode = Mode.scan ∨ s.mode = Mode.run

/-- Status, value field, raw field and error flag of each check agree (R34, R35, R42 (d) and (e)). -/
structure ReportInv (s : State) : Prop where
  ver : (s.fst.ver = .ok ∧ s.hdr.ver = s.raw.ver) ∨ (s.fst.ver.notRead ∧ s.hdr.ver = 0 ∧ s.raw.ver = 0)
  crc : (s.fst.crc = .ok ∧ s.hdr.crc = 1 - s.raw.pa) ∨ (s.fst.crc.notRead ∧ s.hdr.crc = 0 ∧ s.raw.pa = 0)
  layer : (s.fst.layer = .ok ∧ s.raw.layer = 0) ∨ (s.fst.layer = .invalid ∧ s.raw.layer ≠ 0) ∨
    (s.fst.layer.notRead ∧ s.raw.layer = 0)
  prof : (s.fst.prof = .ok ∧ s.raw.prof ≠ 0 ∧ s.hdr.profile = s.raw.prof.setWidth 3) ∨
    (s.fst.prof = .invalid ∧ s.raw.prof = 0 ∧ s.hdr.profile = 0) ∨
    (s.fst.prof.notRead ∧ s.raw.prof = 0 ∧ s.hdr.profile = 0)
  sf : (s.fst.sf = .ok ∧ Config.sfTab[s.raw.sfi.toNat]? = some s.sfHz) ∨
    (s.fst.sf = .invalid ∧ 13 ≤ s.raw.sfi.toNat ∧ s.sfHz = 0) ∨ (s.fst.sf.notRead ∧ s.raw.sfi = 0 ∧ s.sfHz = 0)
  cc : (s.fst.cc = .ok ∧ s.hdr.chan = s.raw.cc.setWidth 4) ∨ (s.fst.cc.notRead ∧ s.raw.cc = 0 ∧ s.hdr.chan = 0)
  scan : s.fst.scan ≠ .invalid
  syncNotFound : s.err.syncNotFound = true ↔ s.fst.sync = .invalid
  invalidLayer : s.err.invalidLayer = true ↔ s.fst.layer = .invalid
  invalidProfile : s.err.invalidProfile = true ↔ s.fst.prof = .invalid
  invalidSamplingFrequency : s.err.invalidSamplingFrequency = true ↔ s.fst.sf = .invalid
  invalidChannelConfig : s.err.invalidChannelConfig = false
  truncated : s.err.truncated = true ↔
    s.fst.sync = .ok ∧ (s.fst.prof = .unread ∨ s.fst.sf = .unread ∨ s.fst.cc = .unread)

/-- Every result and working register holds its reset value. -/
abbrev cleared (s : State) : Prop :=
  s.syncPos = 0 ∧ s.si = 0 ∧ s.count = 0 ∧ s.hdr = State.reset.hdr ∧ s.sfHz = 0 ∧ s.raw = State.reset.raw ∧
    s.fst = State.reset.fst ∧ s.err = State.reset.err

/-- Where the sequencer is and what it has done so far. -/
structure SeqInv (s : State) : Prop where
  /-- R171: in IDLE the result registers hold their reset values. -/
  idle : s.phase = Phase.idle → s.mode = Mode.none ∧ s.cur = 0 ∧ cleared s
  /-- R131: while searching, nothing is recorded, CUR <= LEN - 1 and no candidate lies before CUR. -/
  searching : s.phase = Phase.sync →
    cleared s ∧ s.cur.toNat + 1 ≤ s.len.toNat ∧ ∀ k < s.cur.toNat, candidateAt s k = false
  /-- R42 (b), R142: the accepted candidate is the first one, and CUR stands on `hb1` or on `hb2`. -/
  found : inHeader s → candidateAt s s.syncPos.toNat = true ∧ (∀ k < s.syncPos.toNat, candidateAt s k = false) ∧
    s.cur.toNat = s.syncPos.toNat + (if s.phase.toNat ≤ 5 then 1 else 2) ∧ s.si = 0 ∧ s.count = 0
  /-- R26: each step of the header has been taken exactly if PHASE is past it. -/
  progress : inHeader s → s.fst.sync = .ok ∧ s.fst.ver = (if 3 ≤ s.phase.toNat then .ok else .none) ∧
    (if 4 ≤ s.phase.toNat then s.fst.layer = .ok ∨ s.fst.layer = .invalid else s.fst.layer = .none) ∧
    s.fst.crc = (if 5 ≤ s.phase.toNat then .ok else .none) ∧ (s.fst.prof = .none ↔ s.phase.toNat ≤ 5) ∧
    (s.fst.sf = .none ↔ s.phase.toNat ≤ 6) ∧ s.fst.cc = .none ∧ s.fst.scan = .none
  /-- R163, R126: while scanning, SI <= LEN - 1 (0 for an empty buffer) and COUNT is the number of matches below SI. -/
  scanning : s.phase = Phase.scan → s.fst.scan = .none ∧ s.si.toNat ≤ s.len.toNat - 1 ∧
    s.count.toNat = matchesBelow s s.scanp s.si.toNat
  /-- R139, R142: a RUN scans for the version and CRC presence it decoded, CUR on `hb3` of the candidate. -/
  runScan : s.phase = Phase.scan → s.mode = Mode.run → candidateAt s s.syncPos.toNat = true ∧
    s.cur.toNat = s.syncPos.toNat + 3 ∧ s.scanp = ⟨s.hdr.ver, s.hdr.crc⟩ ∧ s.fst.sync = .ok
  /-- R42 (c), outside the decoder's steps. -/
  atRest : ¬ decoding s → (s.fst.ver = .ok ↔ s.fst.sync = .ok) ∧
    ((s.fst.layer = .ok ∨ s.fst.layer = .invalid) ↔ s.fst.sync = .ok) ∧ (s.fst.crc = .ok ↔ s.fst.sync = .ok)

/-- The machine's invariant. -/
structure RunInv (s : State) : Prop where
  param : ParamInv s
  report : ReportInv s
  seq : SeqInv s

/-- `k` steps of the machine, stopping at the first fault or refusal. -/
def runSteps (k : Nat) (s : State) : Host.Outcome State Fault Refusal := Host.Core.run Sys2Proof.core k s

/-- The flag of one cause (R36). -/
def Err.has (e : Err) : Cause → Bool
  | .syncNotFound => e.syncNotFound
  | .invalidLayer => e.invalidLayer
  | .invalidProfile => e.invalidProfile
  | .invalidSamplingFrequency => e.invalidSamplingFrequency
  | .invalidChannelConfig => e.invalidChannelConfig
  | .sourceUnavailable => e.sourceUnavailable
  | .emptyInput => e.emptyInput
  | .truncated => e.truncated

/-- The host's next move asserts reset, or writes to CTRL (or presents as a command word), while no run is in progress, one of
the codes in `codes`. -/
def resetsOrCommands (codes : List Nat) (s : State) : Bool :=
  match s.host with
  | .reset :: _ => true
  | .wr idx v :: _ => decide (idx = 0) && !isBusy s && codes.contains (v.toNat % 8)
  | .present .command w :: _ => !isBusy s && codes.contains (w % 8)
  | _ => false

/-- The sequencer's rows of the transition table R177. -/
def sequencerNext (s : State) : BitVec 4 :=
  match s.phase.toNat with
  | 1 =>
    if s.cur.toNat + 1 < s.len.toNat then
      if s.bufByte s.cur.toNat = 0xFF#8 ∧ (s.bufByte (s.cur.toNat + 1)).extractLsb' 4 4 = 0xF#4 then Phase.ver
      else Phase.sync
    else Phase.done
  | 2 => Phase.layer
  | 3 => Phase.prot
  | 4 => Phase.profile
  | 5 => Phase.sfi
  | 6 => Phase.priv
  | 7 => Phase.chan
  | 8 => if s.mode = Mode.run then Phase.scan else Phase.done
  | 9 => if s.si.toNat + 1 < s.len.toNat then Phase.scan else Phase.done
  | _ => s.phase

/-- The host's rows of the transition table R177, for the command code `code` written to CTRL. -/
def commandNext (s : State) (code : Nat) : BitVec 4 :=
  if isBusy s then s.phase
  else
    match code with
    | 1 | 3 => if s.srcOk = 0 ∨ s.len = 0 then Phase.done else Phase.sync
    | 2 => if s.srcOk = 0 then Phase.done else Phase.scan
    | 4 => Phase.idle
    | _ => s.phase

/-- The complete transition table of PHASE, R177. -/
def nextPhase (s : State) : BitVec 4 :=
  match s.host with
  | [] => sequencerNext s
  | .turn :: _ => sequencerNext s
  | .wait :: _ => sequencerNext s
  | .reset :: _ => Phase.idle
  | .wr idx v :: _ => if idx = 0 then commandNext s (v.toNat % 8) else s.phase
  | .load _ :: _ => s.phase
  | .rd _ :: _ => s.phase
  | .present _ _ :: _ => s.phase

end Sys2Proof.Machine
end

