-- ==== Sys2Proof/Certificates/Slice0/Obligations.lean ====
section
/-! DEFINITION. The statements for the provers. Each names the rule of the spec it formalises; a next state is written out
as the update of the state before, so a completion statement is its own frame. -/

open Sys2Proof Sys2Proof.Machine

/-! Encoding. -/

/-- Words written out from the spec's encodings decode to the rows they stand for: a phase (R24), a command with ignored
bits set (R38, vector X9: `WR CTRL, 0x9` is DECODE), the header of vector E1 (R81), a candidate (R89), two patterns (R90)
and a row of each value table (R85 to R88). -/
def Obligations.SpecWordsDecode : Prop :=
  decode .phase 0x6 = .ok .sfi ∧ decode .command 0x9 = .ok .cmdDecode ∧
  decodeBytes .header [0xFF, 0xF1, 0x0E, 0x02, 0, 0, 0] = .ok (.adtsHeader 0 0 1 0 0 3 2 0 2 0) ∧
  decodeBytes .header [0xFF, 0xF8, 0xD1, 0xA5, 0, 0, 1] = .ok (.adtsHeader 1 0 0 1 1 4 1 0x29 1 1) ∧
  decodeBytes .candidate [0xFF, 0xF5] = .ok (.syncCandidate 5) ∧
  decodeBytes .pattern [0xFF, 0xF1] = .ok .scanPattern00 ∧ decodeBytes .pattern [0xFF, 0xF8] = .ok .scanPattern11 ∧
  decode .verField 1 = .ok .ver1 ∧ decode .protField 0 = .ok .prot0 ∧ decode .layerField 2 = .ok .layer2 ∧
  decode .profileField 4 = .ok .profile4 ∧ decode .sfiField 12 = .ok .sfi12 ∧ decode .chanField 8 = .ok .chan8

/-- Decoding the encoding of a well-formed row gives the row back, every operand at every value. The layout of the operands
of `read_bit` and `read_bits` is the model's own (notes/assumptions/7.md). -/
def Obligations.DecodeOfEncode : Prop :=
  ∀ i : Instr, i.wf = true → decode (encode i).1 (encode i).2 = .ok i

/-- What decodes is well formed and encodes back to the number it came from; of a command only bits 2:0 count.
For the tables `readBit` and `readBits` it is about the model's own operand layout, which no rule gives
(notes/assumptions/7.md). -/
def Obligations.EncodeOfDecode : Prop :=
  ∀ (t : Table) (w : Nat) (i : Instr), decode t w = .ok i →
    i.wf = true ∧ encode i = (t, if t = .command then w % 8 else w)

/-- R89: a pair of bytes is a sync candidate exactly if the first is 0xFF and the second has `[7:4] == 0xF`, that is
exactly if the 16-bit number has `0xFFF0` under the mask `0xFFF0`, that is if the second byte is one of 0xF0 to 0xFF; it
then decodes to the candidate row with its four free bits. -/
def Obligations.CandidateIsTheMaskedTest : Prop :=
  ∀ b0 b1 : Byte,
    (isCandidate b0 b1 = true ↔ b0 = 0xFF#8 ∧ b1.extractLsb' 4 4 = 0xF#4) ∧
    (isCandidate b0 b1 = true ↔ (b0 ++ b1 : BitVec 16) &&& 0xFFF0#16 = 0xFFF0#16) ∧
    (isCandidate b0 b1 = true ↔ b0 = 0xFF#8 ∧ 0xF0 ≤ b1.toNat) ∧
    (isCandidate b0 b1 = true ↔ decodeBytes .candidate [b0, b1] = .ok (.syncCandidate (b1.extractLsb' 0 4)))

/-- R161, R90: the five conditions of a match, each in the header's own bits, hold exactly if the pair is `0xFF` and
`E(VER, CRC) = 0xF0 | (VER << 3) | (1 - CRC)`, exactly if it decodes to the pattern row of SCANP. -/
def Obligations.PatternIsTheFiveConditions : Prop :=
  ∀ (b0 b1 : Byte) (v c : BitVec 1),
    (isPattern b0 b1 ⟨v, c⟩ = true ↔
      b0 = 0xFF#8 ∧ b1.extractLsb' 4 4 = 0xF#4 ∧ b1.extractLsb' 3 1 = v ∧ b1.extractLsb' 2 1 = 0#1 ∧
        b1.extractLsb' 1 1 = 0#1 ∧ b1.extractLsb' 0 1 = 1#1 - c) ∧
    (isPattern b0 b1 ⟨v, c⟩ = true ↔ b0 = 0xFF#8 ∧ b1.toNat = 0xF0 + 8 * v.toNat + (1 - c.toNat)) ∧
    (isPattern b0 b1 ⟨v, c⟩ = true ↔ decodeBytes .pattern [b0, b1] = .ok
      (if v = 0 then (if c = 0 then .scanPattern00 else .scanPattern01)
        else (if c = 0 then .scanPattern10 else .scanPattern11)))

/-! The step, and the host's port. -/

/-- A step executes the row that the fetched number decodes to. What is fetched: PHASE on the sequencer's turn, which an
empty list of host actions, a `turn` and a `WAIT` that has not seen DONE all give it (R24, R178, R94); the word the host writes
to CTRL (R170). The model's own choices: the list that says who moves next (notes/assumptions/1.md), a number presented
(notes/assumptions/2.md), and that a number which is no row stops the step by name (notes/assumptions/9.md). -/
def Obligations.StepRunsTheDecodedRow : Prop :=
  ∀ (s : State) (rest : List HostAct),
    (∀ (t : Table) (w : Nat) (s' : State), fetch s = some (t, w, s') →
      (∀ i, decode t w = .ok i → step s = exec i s') ∧
      (∀ e, decode t w = .error e → step s = .refused (.undecodable e))) ∧
    (s.host = [] → fetch s = some (.phase, s.phase.toNat, s)) ∧
    (s.host = .turn :: rest → fetch s = some (.phase, s.phase.toNat, { s with host := rest })) ∧
    (s.host = .wait :: rest → s.phase ≠ 10 → fetch s = some (.phase, s.phase.toNat, s)) ∧
    (∀ v : Word, s.host = .wr 0 v :: rest → fetch s = some (.command, v.toNat, { s with host := rest })) ∧
    (∀ (t : Table) (w : Nat), s.host = .present t w :: rest → fetch s = some (t, w, { s with host := rest }))

/-- A row placed with `withFetchWord` is what the next step executes, on the state it was placed in; a phase row is placed
by writing its code into PHASE. The model's own convention (notes/assumptions/8.md). -/
def Obligations.PlacedRowRunsNext : Prop :=
  ∀ (s : State) (nbits w : Nat) (i : Instr), decodeTableWord nbits w = some i →
    step (s.withFetchWord nbits w) =
      exec i (if (tableWord nbits w).1 = .phase then { s with phase := BitVec.ofNat 4 w } else s)

/-- R181: `RD idx` returns the register's word and changes nothing else; `WR` of LEN, CFG or SCANP while not BUSY stores
the named fields and ignores the other bits; `WR` of any other register but CTRL is ignored. R176, R225: while BUSY a write to
any register, CTRL included, is taken off the host's list and changes nothing; a read still returns the current value. R40: a
read of an index that does not exist, and of CTRL, gives 0. R94: a `WAIT` at DONE is over, having read STATUS. The list of the
host's moves and `dataOut`, where a value read stands, are the model's own (notes/assumptions/1.md). -/
def Obligations.HostRegisterAccess : Prop :=
  ∀ (s : State) (rest : List HostAct) (idx : Nat) (v : Word),
    (s.host = .rd idx :: rest → step s = .next { s with host := rest, dataOut := regWord s idx }) ∧
    (idx = 0 ∨ 14 ≤ idx → regWord s idx = 0) ∧
    (s.host = .wr 2 v :: rest → isBusy s = false → step s = .next { s with host := rest, len := v }) ∧
    (s.host = .wr 3 v :: rest → isBusy s = false →
      step s = .next { s with host := rest, srcOk := v.extractLsb' 0 1 }) ∧
    (s.host = .wr 4 v :: rest → isBusy s = false →
      step s = .next { s with host := rest, scanp := ⟨v.extractLsb' 0 1, v.extractLsb' 1 1⟩ }) ∧
    (s.host = .wr idx v :: rest → idx = 1 ∨ 5 ≤ idx → step s = .next { s with host := rest }) ∧
    (s.host = .wr idx v :: rest → 1 ≤ s.phase.toNat → s.phase.toNat ≤ 9 → step s = .next { s with host := rest }) ∧
    (s.host = .wait :: rest → s.phase = 10 → step s = .next { s with host := rest, dataOut := regWord s 1 })

/-- R43, R220: reset may be asserted in any state, a run in progress included; every register then holds the table's
value, and the buffer is not touched. The reset state itself reads 0 in every register. Reset is the only way to end a run early:
while BUSY no other move of the spec's host (a read, a write, a command, a load) changes PHASE or any register. -/
def Obligations.ResetRestoresTheTable : Prop :=
  (∀ idx : Nat, regWord State.reset idx = 0) ∧
  (∀ (s : State) (rest : List HostAct), s.host = .reset :: rest →
    ∃ t, step s = .next t ∧ (∀ idx : Nat, regWord t idx = 0) ∧ t.phase = 0 ∧ t.mode = 0 ∧ t.len = 0 ∧ t.srcOk = 0 ∧
      t.scanp = ⟨0, 0⟩ ∧ t.buf = s.buf ∧ (∀ a, t.bufByte a = s.bufByte a)) ∧
  (∀ (s t : State) (a : HostAct) (rest : List HostAct), s.host = a :: rest → isSpecMove a = true →
    a ∉ [.reset, .turn, .wait] → 1 ≤ s.phase.toNat → s.phase.toNat ≤ 9 → step s = .next t →
    t.phase = s.phase ∧ (∀ idx : Nat, regWord t idx = regWord s idx) ∧ (∀ b, t.bufByte b = s.bufByte b))

/-- R27, R32, R33, R35, R36, R37 and the map R39: each named field stands at its bits of its register, and every unnamed
bit reads 0. The status codes 0 to 3 of R33 and the bit numbers 1 to 8 of R36 are written as numerals. -/
def Obligations.RegisterWordLayout : Prop :=
  ∀ s : State,
    ((regWord s 1).extractLsb' 0 4 = s.phase ∧ (regWord s 1).extractLsb' 4 2 = s.mode ∧
      ((regWord s 1).extractLsb' 6 1 = 1#1 ↔ 1 ≤ s.phase.toNat ∧ s.phase.toNat ≤ 9) ∧
      ((regWord s 1).extractLsb' 7 1 = 1#1 ↔ s.phase = 10) ∧
      ((regWord s 1).extractLsb' 8 1 = 1#1 ↔ s.err.sourceUnavailable = true ∨ s.err.emptyInput = true) ∧
      ((regWord s 1).extractLsb' 9 1 = 1#1 ↔ regWord s 11 ≠ 0) ∧ (regWord s 1).extractLsb' 10 22 = 0) ∧
    (regWord s 2 = s.len ∧ regWord s 5 = s.cur ∧ regWord s 6 = s.syncPos ∧ regWord s 12 = s.si ∧
      regWord s 13 = s.count) ∧
    ((regWord s 3).toNat = s.srcOk.toNat ∧ (regWord s 4).toNat = s.scanp.ver.toNat + 2 * s.scanp.crc.toNat ∧
      (regWord s 8).toNat = s.sfHz.toNat) ∧
    ((regWord s 7).toNat = s.hdr.ver.toNat + 2 * s.hdr.crc.toNat + 4 * s.hdr.profile.toNat + 32 * s.hdr.chan.toNat) ∧
    ((regWord s 9).toNat = s.raw.ver.toNat + 2 * s.raw.layer.toNat + 8 * s.raw.pa.toNat + 16 * s.raw.prof.toNat +
      64 * s.raw.sfi.toNat + 1024 * s.raw.cc.toNat) ∧
    ((∀ p ∈ [(0, s.fst.sync), (2, s.fst.ver), (4, s.fst.layer), (6, s.fst.crc), (8, s.fst.prof), (10, s.fst.sf),
        (12, s.fst.cc), (14, s.fst.scan)],
      (p.2 = .none → (regWord s 10).extractLsb' p.1 2 = 0#2) ∧ (p.2 = .ok → (regWord s 10).extractLsb' p.1 2 = 1#2) ∧
      (p.2 = .invalid → (regWord s 10).extractLsb' p.1 2 = 2#2) ∧
      (p.2 = .unread → (regWord s 10).extractLsb' p.1 2 = 3#2)) ∧
      (regWord s 10).extractLsb' 16 16 = 0#16) ∧
    ((regWord s 11).getLsbD 1 = s.err.syncNotFound ∧ (regWord s 11).getLsbD 2 = s.err.invalidLayer ∧
      (regWord s 11).getLsbD 3 = s.err.invalidProfile ∧ (regWord s 11).getLsbD 4 = s.err.invalidSamplingFrequency ∧
      (regWord s 11).getLsbD 5 = s.err.invalidChannelConfig ∧ (regWord s 11).getLsbD 6 = s.err.sourceUnavailable ∧
      (regWord s 11).getLsbD 7 = s.err.emptyInput ∧ (regWord s 11).getLsbD 8 = s.err.truncated ∧
      (regWord s 11).getLsbD 0 = false ∧ (regWord s 11).extractLsb' 9 23 = 0#23)

/-! The two functions. -/

/-- R120: inside its contract `read_bit` completes, gives the bit at `offset` counted from the most-significant end, and
changes no register; the result is given to the host in the model's own `dataOut` (notes/assumptions/1.md). -/
def Obligations.ReadBitGivesTheBit : Prop :=
  ∀ (s : State) (b : Byte) (offset : Nat), offset ≤ 7 →
    exec (.readBit b offset) s = .next { s with dataOut := if b.getLsbD (7 - offset) then 1 else 0 }

/-- R121: inside its contract `read_bits` completes, gives the `count` bits from `offset` counted from the
least-significant end as an unsigned number, below `2^count`, and changes no register; the result is given to the host in the
model's own `dataOut` (notes/assumptions/1.md). -/
def Obligations.ReadBitsGivesTheField : Prop :=
  ∀ (s : State) (b : Byte) (offset count : Nat), offset + count ≤ 8 →
    ∃ v : Word, exec (.readBits b offset count) s = .next { s with dataOut := v } ∧
      v.toNat = (b.toNat >>> offset) % 2 ^ count ∧
      (∀ n, v.getLsbD n = (decide (n < count) && b.getLsbD (offset + n))) ∧
      (offset = 0 → count = 8 → v.toNat = b.toNat) ∧ (count = 0 → v = 0)

/-- R122, item U1: outside the contract the two functions have no meaning and stop by a refusal, which is none of the
block's errors. That it is a refusal is item U1's advice to a model, not a behaviour of the hardware. -/
def Obligations.OutOfContractCallsStop : Prop :=
  ∀ (s : State) (b : Byte) (offset count : Nat),
    (8 ≤ offset → exec (.readBit b offset) s = .refused .outOfContract) ∧
    (8 < offset + count → exec (.readBits b offset count) s = .refused .outOfContract)

/-! The decoder's steps. -/

/-- R131, SYNC: on a candidate at CUR it records the position and moves on with CUR on the second byte; on any other pair
CUR advances by one and PHASE stays; when no pair is left it raises `SyncNotFound`, marks the six other decoder checks
UNREAD, in a RUN the scan too, and goes to DONE. In a run (the invariant) the accepted candidate is the one at the lowest
offset, and the failure happens only when the buffer holds none. -/
def Obligations.SyncStep : Prop :=
  ∀ s : State,
    (s.cur.toNat + 1 < s.len.toNat → s.bufByte s.cur.toNat = 0xFF#8 →
      (s.bufByte (s.cur.toNat + 1)).extractLsb' 4 4 = 0xF#4 →
      exec .sync s = .next
        { s with syncPos := s.cur, cur := s.cur + 1, fst := { s.fst with sync := .ok }, phase := 2 }) ∧
    (s.cur.toNat + 1 < s.len.toNat →
      ¬ (s.bufByte s.cur.toNat = 0xFF#8 ∧ (s.bufByte (s.cur.toNat + 1)).extractLsb' 4 4 = 0xF#4) →
      exec .sync s = .next { s with cur := s.cur + 1 }) ∧
    (s.len.toNat ≤ s.cur.toNat + 1 →
      exec .sync s = .next { s with
        err := { s.err with syncNotFound := true },
        fst := ⟨.invalid, .unread, .unread, .unread, .unread, .unread, .unread,
          if s.mode = 3 then .unread else s.fst.scan⟩,
        phase := 10 }) ∧
    (RunInv s → s.phase = 1 →
      (candidateAt s s.cur.toNat = true → firstCandidate s = some s.cur.toNat) ∧
      (s.len.toNat ≤ s.cur.toNat + 1 → firstCandidate s = none ∧ ∀ j, candidateAt s j = false))

/-- R132, VER: bit 3 of `hb1` goes to RAW.VER and HDR.VER and the status is OK; CUR does not move. -/
def Obligations.VerStep : Prop :=
  ∀ s : State, s.cur.toNat < s.len.toNat →
    exec .ver s = .next { s with
      raw := { s.raw with ver := (s.bufByte s.cur.toNat).extractLsb' 3 1 },
      hdr := { s.hdr with ver := (s.bufByte s.cur.toNat).extractLsb' 3 1 },
      fst := { s.fst with ver := .ok }, phase := 3 }

/-- R133, LAYER: bits 2:1 of `hb1` go to RAW.LAYER; OK if both are 0, else `InvalidLayer`; PHASE goes on in both cases, and
CUR and HDR do not change. -/
def Obligations.LayerStep : Prop :=
  ∀ s : State, s.cur.toNat < s.len.toNat →
    ((s.bufByte s.cur.toNat).extractLsb' 1 2 = 0#2 →
      exec .layer s = .next { s with
        raw := { s.raw with layer := 0 }, fst := { s.fst with layer := .ok }, phase := 4 }) ∧
    ((s.bufByte s.cur.toNat).extractLsb' 1 2 ≠ 0#2 →
      exec .layer s = .next { s with
        raw := { s.raw with layer := (s.bufByte s.cur.toNat).extractLsb' 1 2 },
        fst := { s.fst with layer := .invalid }, err := { s.err with invalidLayer := true }, phase := 4 })

/-- R134, PROT: bit 0 of `hb1` goes to RAW.PA and its complement to HDR.CRC; the status is OK; CUR does not move. -/
def Obligations.ProtStep : Prop :=
  ∀ s : State, s.cur.toNat < s.len.toNat →
    exec .prot s = .next { s with
      raw := { s.raw with pa := (s.bufByte s.cur.toNat).extractLsb' 0 1 },
      hdr := { s.hdr with crc := ~~~ (s.bufByte s.cur.toNat).extractLsb' 0 1 },
      fst := { s.fst with crc := .ok }, phase := 5 }

/-- R135, PROFILE: CUR advances by one in every case; bits 1:0 of `hb2` go to RAW.PROF; 1, 2 and 3 are HDR.PROFILE and OK, 0
is `InvalidProfile` with the member Unknown; when `hb2` does not exist `Truncated` and UNREAD. -/
def Obligations.ProfileStep : Prop :=
  ∀ s : State,
    (s.cur.toNat + 1 < s.len.toNat → (s.bufByte (s.cur.toNat + 1)).extractLsb' 0 2 ≠ 0#2 →
      exec .profile s = .next { s with
        cur := s.cur + 1, raw := { s.raw with prof := (s.bufByte (s.cur.toNat + 1)).extractLsb' 0 2 },
        hdr := { s.hdr with profile := ((s.bufByte (s.cur.toNat + 1)).extractLsb' 0 2).setWidth 3 },
        fst := { s.fst with prof := .ok }, phase := 6 }) ∧
    (s.cur.toNat + 1 < s.len.toNat → (s.bufByte (s.cur.toNat + 1)).extractLsb' 0 2 = 0#2 →
      exec .profile s = .next { s with
        cur := s.cur + 1, raw := { s.raw with prof := 0 }, hdr := { s.hdr with profile := 0 },
        fst := { s.fst with prof := .invalid }, err := { s.err with invalidProfile := true }, phase := 6 }) ∧
    (s.len.toNat ≤ s.cur.toNat + 1 →
      exec .profile s = .next { s with
        cur := s.cur + 1, fst := { s.fst with prof := .unread }, err := { s.err with truncated := true }, phase := 6 })

/-- R136, SFI: bits 5:2 of `hb2` go to RAW.SFI; an index up to 12 gives the table's hertz value and OK, 13 to 15
`InvalidSamplingFrequency` with SF_HZ 0 (R136: it stays 0, as it is in every run; R190: SF_HZ = 0); when `hb2` does not exist
`Truncated` and UNREAD; CUR does not move. -/
def Obligations.SfiStep : Prop :=
  ∀ s : State,
    (s.cur.toNat < s.len.toNat → ∀ hz, Config.sfTab[((s.bufByte s.cur.toNat).extractLsb' 2 4).toNat]? = some hz →
      exec .sfi s = .next { s with
        raw := { s.raw with sfi := (s.bufByte s.cur.toNat).extractLsb' 2 4 }, sfHz := hz,
        fst := { s.fst with sf := .ok }, phase := 7 }) ∧
    (s.cur.toNat < s.len.toNat → 13 ≤ ((s.bufByte s.cur.toNat).extractLsb' 2 4).toNat →
      exec .sfi s = .next { s with
        raw := { s.raw with sfi := (s.bufByte s.cur.toNat).extractLsb' 2 4 }, sfHz := 0,
        fst := { s.fst with sf := .invalid }, err := { s.err with invalidSamplingFrequency := true }, phase := 7 }) ∧
    (s.len.toNat ≤ s.cur.toNat →
      exec .sfi s = .next { s with
        fst := { s.fst with sf := .unread }, err := { s.err with truncated := true }, phase := 7 }) ∧
    (∀ n : Nat, (∃ hz, Config.sfTab[n]? = some hz) ↔ n ≤ 12)

/-- R137, PRIV: in every state, whether `hb2` exists or not and whatever its bit 6, the step changes PHASE alone. -/
def Obligations.PrivStep : Prop :=
  ∀ s : State, exec .priv s = .next { s with phase := 8 }

/-- R138 and R139, CHAN: CUR advances by one in every case; `hb2[7]` and `hb3[1:0]` make the channel value, which is always
valid; when `hb3` does not exist `Truncated` and UNREAD. The exit is part of the step: in a RUN SCANP is loaded with HDR.VER
and HDR.CRC, SI and COUNT are 0 and PHASE is SCAN, else PHASE is DONE. -/
def Obligations.ChanStep : Prop :=
  ∀ s : State,
    (s.cur.toNat + 1 < s.len.toNat →
      exec .chan s = .next { s with
        cur := s.cur + 1,
        raw := { s.raw with
          cc := (s.bufByte s.cur.toNat).extractLsb' 7 1 ++ (s.bufByte (s.cur.toNat + 1)).extractLsb' 0 2 },
        hdr := { s.hdr with
          chan := 0#1 ++ ((s.bufByte s.cur.toNat).extractLsb' 7 1 ++
            (s.bufByte (s.cur.toNat + 1)).extractLsb' 0 2) },
        fst := { s.fst with cc := .ok },
        scanp := if s.mode = 3 then ⟨s.hdr.ver, s.hdr.crc⟩ else s.scanp,
        si := if s.mode = 3 then 0 else s.si, count := if s.mode = 3 then 0 else s.count,
        phase := if s.mode = 3 then 9 else 10 }) ∧
    (s.len.toNat ≤ s.cur.toNat + 1 →
      exec .chan s = .next { s with
        cur := s.cur + 1, fst := { s.fst with cc := .unread }, err := { s.err with truncated := true },
        scanp := if s.mode = 3 then ⟨s.hdr.ver, s.hdr.crc⟩ else s.scanp,
        si := if s.mode = 3 then 0 else s.si, count := if s.mode = 3 then 0 else s.count,
        phase := if s.mode = 3 then 9 else 10 })

/-- R162, SCAN: at a position with a following byte COUNT rises by one exactly if the pair there is `0xFF` and the byte
`E(VER, CRC)` of SCANP, and SI rises by one in either case; at the last position FST.SCAN is OK and PHASE is DONE. -/
def Obligations.ScanStep : Prop :=
  ∀ s : State,
    (s.si.toNat + 1 < s.len.toNat → s.bufByte s.si.toNat = 0xFF#8 →
      (s.bufByte (s.si.toNat + 1)).toNat = 0xF0 + 8 * s.scanp.ver.toNat + (1 - s.scanp.crc.toNat) →
      exec .scan s = .next { s with si := s.si + 1, count := s.count + 1 }) ∧
    (s.si.toNat + 1 < s.len.toNat →
      ¬ (s.bufByte s.si.toNat = 0xFF#8 ∧
        (s.bufByte (s.si.toNat + 1)).toNat = 0xF0 + 8 * s.scanp.ver.toNat + (1 - s.scanp.crc.toNat)) →
      exec .scan s = .next { s with si := s.si + 1 }) ∧
    (s.len.toNat ≤ s.si.toNat + 1 →
      exec .scan s = .next { s with fst := { s.fst with scan := .ok }, phase := 10 })

/-- R171, R41: in IDLE and in DONE the block waits and nothing changes, and the machine's step with no host action pending
is that wait; in a state of the invariant IDLE holds the reset values in every result register. -/
def Obligations.WaitingPhasesChangeNothing : Prop :=
  ∀ s : State, exec .idle s = .next s ∧ exec .done s = .next s ∧
    (s.host = [] → s.phase = 0 ∨ s.phase = 10 → step s = .next s) ∧
    (RunInv s → s.phase = 0 → ∀ idx : Nat, 5 ≤ idx → regWord s idx = 0)

/-- R24: the phase codes 11 to 15 are reserved; the spec defines no step for them, and each stops by a refusal that names
its code, the model's own way to stop. -/
def Obligations.ReservedPhasesStop : Prop :=
  ∀ s : State,
    exec .phaseReserved11 s = .refused (.reservedPhase 11) ∧ exec .phaseReserved12 s = .refused (.reservedPhase 12) ∧
    exec .phaseReserved13 s = .refused (.reservedPhase 13) ∧ exec .phaseReserved14 s = .refused (.reservedPhase 14) ∧
    exec .phaseReserved15 s = .refused (.reservedPhase 15)

/-! The commands. -/

/-- R170: a word written to CTRL is the command of its bits 2:0, with the codes 0 to 7 as listed; in the phases IDLE and DONE
an accepted NOP and an accepted reserved code change nothing; a command of any code written while BUSY is ignored. -/
def Obligations.CommandCodesNopAndReserved : Prop :=
  (∀ v : Word, decode .command v.toNat = decode .command (v.extractLsb' 0 3).toNat) ∧
  decode .command 0 = .ok .cmdNop ∧ decode .command 1 = .ok .cmdDecode ∧ decode .command 2 = .ok .cmdScan ∧
  decode .command 3 = .ok .cmdRun ∧ decode .command 4 = .ok .cmdClear ∧ decode .command 5 = .ok .cmdReserved5 ∧
  decode .command 6 = .ok .cmdReserved6 ∧ decode .command 7 = .ok .cmdReserved7 ∧
  ∀ s : State,
    (s.phase = 0 ∨ s.phase = 10 → s.len ≠ 4294967295#32 →
      exec .cmdNop s = .next s ∧ exec .cmdReserved5 s = .next s ∧ exec .cmdReserved6 s = .next s ∧
      exec .cmdReserved7 s = .next s) ∧
    (∀ v : Word, ∀ i : Instr, decode .command v.toNat = .ok i → isBusy s = true → exec i s = .next s)

/-- R172, DECODE accepted: every result and working register to its reset value, MODE is DECODE; then `SourceUnavailable`
and DONE if SRC_OK is 0, else `EmptyInput` and DONE if LEN is 0, else SYNC. LEN, CFG and SCANP are not changed. -/
def Obligations.DecodeCommand : Prop :=
  ∀ s : State, isBusy s = false → s.len ≠ 4294967295#32 →
    exec .cmdDecode s = .next { s with
      mode := 1, cur := 0, syncPos := 0, si := 0, count := 0, hdr := ⟨0, 0, 0, 0⟩, sfHz := 0, raw := ⟨0, 0, 0, 0, 0, 0⟩,
      fst := ⟨.none, .none, .none, .none, .none, .none, .none, .none⟩,
      err := ⟨false, false, false, false, false, decide (s.srcOk = 0), decide (s.srcOk ≠ 0 ∧ s.len = 0), false⟩,
      phase := if s.srcOk = 0 ∨ s.len = 0 then 10 else 1 }

/-- R173, SCAN accepted: MODE is SCAN, SI and COUNT are 0 and FST.SCAN is NONE; with SRC_OK 0 `SourceUnavailable`, FST.SCAN
UNREAD and DONE, else the phase SCAN. Nothing else is cleared, and LEN = 0 is no error. -/
def Obligations.ScanCommand : Prop :=
  ∀ s : State, isBusy s = false → s.len ≠ 4294967295#32 →
    exec .cmdScan s = .next { s with
      mode := 2, si := 0, count := 0,
      fst := { s.fst with scan := if s.srcOk = 0 then .unread else .none },
      err := { s.err with sourceUnavailable := s.err.sourceUnavailable || decide (s.srcOk = 0) },
      phase := if s.srcOk = 0 then 10 else 9 }

/-- R174, RUN accepted: as DECODE with MODE RUN, and in the two fatal cases FST.SCAN is UNREAD. -/
def Obligations.RunCommand : Prop :=
  ∀ s : State, isBusy s = false → s.len ≠ 4294967295#32 →
    exec .cmdRun s = .next { s with
      mode := 3, cur := 0, syncPos := 0, si := 0, count := 0, hdr := ⟨0, 0, 0, 0⟩, sfHz := 0, raw := ⟨0, 0, 0, 0, 0, 0⟩,
      fst := ⟨.none, .none, .none, .none, .none, .none, .none, if s.srcOk = 0 ∨ s.len = 0 then .unread else .none⟩,
      err := ⟨false, false, false, false, false, decide (s.srcOk = 0), decide (s.srcOk ≠ 0 ∧ s.len = 0), false⟩,
      phase := if s.srcOk = 0 ∨ s.len = 0 then 10 else 1 }

/-- R179, CLEAR accepted: IDLE, MODE 0 and every result and working register 0; LEN, CFG and SCANP keep their values. -/
def Obligations.ClearCommand : Prop :=
  ∀ s : State, isBusy s = false → s.len ≠ 4294967295#32 →
    exec .cmdClear s = .next { s with
      phase := 0, mode := 0, cur := 0, syncPos := 0, si := 0, count := 0, hdr := ⟨0, 0, 0, 0⟩, sfHz := 0,
      raw := ⟨0, 0, 0, 0, 0, 0⟩, fst := ⟨.none, .none, .none, .none, .none, .none, .none, .none⟩,
      err := ⟨false, false, false, false, false, false, false, false⟩ }

/-- R21, item U6: with LEN = 2^32 - 1, which is not legal, an accepted command of any code is refused by name; R170, R176:
while BUSY a command of any code, whatever LEN holds, changes nothing. -/
def Obligations.CommandsRefusedOrIgnored : Prop :=
  ∀ (s : State) (i : Instr),
    i ∈ [.cmdNop, .cmdDecode, .cmdScan, .cmdRun, .cmdClear, .cmdReserved5, .cmdReserved6, .cmdReserved7] →
    (isBusy s = false → s.len = 4294967295#32 → exec i s = .refused .lengthTooLarge) ∧
    (isBusy s = true → exec i s = .next s)

/-! The rows of the value tables and of the whole patterns. -/

/-- R88: the rows of the version, protection and layer tables write the value field, the status and on failure the flag, and
nothing else. That a row is an operation of its own is the model's choice (notes/assumptions/2.md). -/
def Obligations.VersionProtectionLayerRows : Prop :=
  ∀ s : State,
    (∀ p ∈ [(Instr.ver0, 0#1), (.ver1, 1#1)],
      exec p.1 s = .next { s with hdr := { s.hdr with ver := p.2 }, fst := { s.fst with ver := .ok } }) ∧
    (∀ p ∈ [(Instr.prot0, 1#1), (.prot1, 0#1)],
      exec p.1 s = .next { s with hdr := { s.hdr with crc := p.2 }, fst := { s.fst with crc := .ok } }) ∧
    exec .layer0 s = .next { s with fst := { s.fst with layer := .ok } } ∧
    (∀ i ∈ [Instr.layer1, .layer2, .layer3],
      exec i s = .next { s with
        fst := { s.fst with layer := .invalid }, err := { s.err with invalidLayer := true } })

/-- R85: `PROFMAP`, row by row: 1 Main, 2 LC, 3 SSR, 4 LTP are OK with their codes; 0, 5, 6 and 7 are `InvalidProfile` with
the member Unknown. That a row is an operation of its own is the model's choice (notes/assumptions/2.md). -/
def Obligations.ProfileRows : Prop :=
  ∀ s : State,
    (∀ p ∈ [(Instr.profile1, 1#3), (.profile2, 2#3), (.profile3, 3#3), (.profile4, 4#3)],
      exec p.1 s = .next { s with hdr := { s.hdr with profile := p.2 }, fst := { s.fst with prof := .ok } }) ∧
    (∀ i ∈ [Instr.profile0, .profile5, .profile6, .profile7],
      exec i s = .next { s with
        hdr := { s.hdr with profile := 0 }, fst := { s.fst with prof := .invalid },
        err := { s.err with invalidProfile := true } })

/-- R86: `SFTAB`, row by row, and 13 to 15 are `InvalidSamplingFrequency`. The values of indices 1, 2 and 4 to 11 are the
ones R86 marks as general knowledge (notes/assumptions/5.md); that a row is an operation of its own is the model's choice
(notes/assumptions/2.md). -/
def Obligations.SamplingFrequencyRows : Prop :=
  ∀ s : State,
    (∀ p ∈ [(Instr.sfi0, 96000#17), (.sfi1, 88200#17), (.sfi2, 64000#17), (.sfi3, 48000#17), (.sfi4, 44100#17),
        (.sfi5, 32000#17), (.sfi6, 24000#17), (.sfi7, 22050#17), (.sfi8, 16000#17), (.sfi9, 12000#17),
        (.sfi10, 11025#17), (.sfi11, 8000#17), (.sfi12, 7350#17)],
      exec p.1 s = .next { s with sfHz := p.2, fst := { s.fst with sf := .ok } }) ∧
    (∀ i ∈ [Instr.sfi13, .sfi14, .sfi15],
      exec i s = .next { s with
        sfHz := 0, fst := { s.fst with sf := .invalid }, err := { s.err with invalidSamplingFrequency := true } })

/-- R87: `CCMAP`, row by row: 0 to 7 are the named layouts with their codes, 8 to 15 are `InvalidChannelConfig` with the
member Reserved. That a row is an operation of its own is the model's choice (notes/assumptions/2.md). -/
def Obligations.ChannelRows : Prop :=
  ∀ s : State,
    (∀ p ∈ [(Instr.chan0, 0#4), (.chan1, 1#4), (.chan2, 2#4), (.chan3, 3#4), (.chan4, 4#4), (.chan5, 5#4), (.chan6, 6#4),
        (.chan7, 7#4)],
      exec p.1 s = .next { s with hdr := { s.hdr with chan := p.2 }, fst := { s.fst with cc := .ok } }) ∧
    (∀ i ∈ [Instr.chan8, .chan9, .chan10, .chan11, .chan12, .chan13, .chan14, .chan15],
      exec i s = .next { s with
        hdr := { s.hdr with chan := 8 }, fst := { s.fst with cc := .invalid },
        err := { s.err with invalidChannelConfig := true } })

/-- The candidate row does what SYNC does on its pair, and a pattern row what SCAN does on its pair: counted exactly if
SCANP selects it, one position on in either case (R89, R90, R131, R162; notes/assumptions/2.md). -/
def Obligations.CandidateAndPatternRows : Prop :=
  ∀ s : State,
    (∀ low : BitVec 4, exec (.syncCandidate low) s = .next
      { s with syncPos := s.cur, cur := s.cur + 1, fst := { s.fst with sync := .ok }, phase := 2 }) ∧
    (∀ p ∈ [(Instr.scanPattern00, (⟨0, 0⟩ : Scanp)), (.scanPattern01, ⟨0, 1⟩), (.scanPattern10, ⟨1, 0⟩),
        (.scanPattern11, ⟨1, 1⟩)],
      exec p.1 s = .next { s with
        si := s.si + 1, count := if s.scanp = p.2 then s.count + 1 else s.count })

/-- R81, R141: the whole-header row completes in every state and leaves, for a candidate at CUR, the report of its own bits;
the private bit and the thirty bits that are never read have no influence (R82, R137). That a header is an operation of its
own is the model's choice (notes/assumptions/2.md). -/
def Obligations.HeaderRow : Prop :=
  ∀ (s : State) (v : BitVec 1) (l : BitVec 2) (p h x : BitVec 1) (ssss : BitVec 4) (pp : BitVec 2) (u6 : BitVec 6)
    (cc : BitVec 2) (u24 : BitVec 24),
    exec (.adtsHeader v l p h x ssss pp u6 cc u24) s = .next { s with
      syncPos := s.cur, cur := s.cur + 3,
      hdr := ⟨v, ~~~ p, pp.setWidth 3, 0#1 ++ (h ++ cc)⟩,
      sfHz := (Config.sfTab[ssss.toNat]?).getD 0,
      raw := ⟨v, l, p, pp, ssss, h ++ cc⟩,
      fst := ⟨.ok, .ok, if l = 0 then .ok else .invalid, .ok, if pp = 0 then .invalid else .ok,
        if ssss.toNat ≤ 12 then .ok else .invalid, .ok, s.fst.scan⟩,
      err := { s.err with
        invalidLayer := s.err.invalidLayer || decide (l ≠ 0),
        invalidProfile := s.err.invalidProfile || decide (pp = 0),
        invalidSamplingFrequency := s.err.invalidSamplingFrequency || decide (13 ≤ ssss.toNat) },
      scanp := if s.mode = 3 then ⟨v, ~~~ p⟩ else s.scanp,
      si := if s.mode = 3 then 0 else s.si, count := if s.mode = 3 then 0 else s.count,
      phase := if s.mode = 3 then 9 else 10 }

/-- A row found in the buffer does what the step that reads it does: SYNC on a pair that is a candidate and SCAN on a pair
that is a pattern, in everything; the six steps that read a field, on the value row of the field, in everything but RAW, PHASE,
for PROFILE and CHAN the advance of CUR, and for CHAN the decoder's exit, which belong to the step and not to the row. That a row
is an operation of its own is the model's choice (notes/assumptions/2.md). -/
def Obligations.RowsAreWhatTheirStepsDo : Prop :=
  ∀ (s : State) (i : Instr),
    (s.cur.toNat + 1 < s.len.toNat →
      decodeBytes .candidate [s.bufByte s.cur.toNat, s.bufByte (s.cur.toNat + 1)] = .ok i → exec .sync s = exec i s) ∧
    (s.si.toNat + 1 < s.len.toNat →
      decodeBytes .pattern [s.bufByte s.si.toNat, s.bufByte (s.si.toNat + 1)] = .ok i → exec .scan s = exec i s) ∧
    (s.cur.toNat < s.len.toNat → decode .verField ((s.bufByte s.cur.toNat).toNat / 8 % 2) = .ok i →
      ∃ t u, exec .ver s = .next t ∧ exec i s = .next u ∧ { u with raw := t.raw, phase := t.phase } = t) ∧
    (s.cur.toNat < s.len.toNat → decode .layerField ((s.bufByte s.cur.toNat).toNat / 2 % 4) = .ok i →
      ∃ t u, exec .layer s = .next t ∧ exec i s = .next u ∧ { u with raw := t.raw, phase := t.phase } = t) ∧
    (s.cur.toNat < s.len.toNat → decode .protField ((s.bufByte s.cur.toNat).toNat % 2) = .ok i →
      ∃ t u, exec .prot s = .next t ∧ exec i s = .next u ∧ { u with raw := t.raw, phase := t.phase } = t) ∧
    (s.cur.toNat + 1 < s.len.toNat → decode .profileField ((s.bufByte (s.cur.toNat + 1)).toNat % 4) = .ok i →
      ∃ t u, exec .profile s = .next t ∧ exec i s = .next u ∧
        { u with cur := t.cur, raw := t.raw, phase := t.phase } = t) ∧
    (s.cur.toNat < s.len.toNat → decode .sfiField ((s.bufByte s.cur.toNat).toNat / 4 % 16) = .ok i →
      ∃ t u, exec .sfi s = .next t ∧ exec i s = .next u ∧ { u with raw := t.raw, phase := t.phase } = t) ∧
    (s.cur.toNat + 1 < s.len.toNat →
      decode .chanField ((s.bufByte s.cur.toNat).toNat / 128 * 4 + (s.bufByte (s.cur.toNat + 1)).toNat % 4) = .ok i →
      ∃ t u, exec .chan s = .next t ∧ exec i s = .next u ∧
        { u with cur := t.cur, raw := t.raw, phase := t.phase, scanp := t.scanp, si := t.si, count := t.count } = t)

/-! Frames. -/

/-- What a decoder step leaves unchanged, in every state: LEN, CFG, MODE, the host's side and every byte of the buffer; SCANP,
SI and COUNT except by CHAN in a RUN; SYNC_POS except by SYNC; CUR except by SYNC, PROFILE and CHAN; SF_HZ except by SFI;
each of the other checks' fields except by its own step (SYNC, when it finds nothing, writes all statuses). -/
def Obligations.DecoderStepFrame : Prop :=
  ∀ (s t : State) (i : Instr), i ∈ [.sync, .ver, .layer, .prot, .profile, .sfi, .priv, .chan] → exec i s = .next t →
    t.len = s.len ∧ t.srcOk = s.srcOk ∧ t.mode = s.mode ∧ t.host = s.host ∧ t.dataOut = s.dataOut ∧ t.buf = s.buf ∧
    (∀ a, t.bufByte a = s.bufByte a) ∧
    ((i ≠ .chan ∨ s.mode ≠ 3) → t.scanp = s.scanp ∧ t.si = s.si ∧ t.count = s.count) ∧
    (i ≠ .sync → t.syncPos = s.syncPos ∧ t.fst.sync = s.fst.sync ∧ t.fst.scan = s.fst.scan ∧
      t.err.syncNotFound = s.err.syncNotFound) ∧
    (i ∉ [.sync, .profile, .chan] → t.cur = s.cur) ∧
    (i ≠ .ver → t.hdr.ver = s.hdr.ver ∧ t.raw.ver = s.raw.ver ∧ (i ≠ .sync → t.fst.ver = s.fst.ver)) ∧
    (i ≠ .layer → t.raw.layer = s.raw.layer ∧ t.err.invalidLayer = s.err.invalidLayer ∧
      (i ≠ .sync → t.fst.layer = s.fst.layer)) ∧
    (i ≠ .prot → t.hdr.crc = s.hdr.crc ∧ t.raw.pa = s.raw.pa ∧ (i ≠ .sync → t.fst.crc = s.fst.crc)) ∧
    (i ≠ .profile → t.hdr.profile = s.hdr.profile ∧ t.raw.prof = s.raw.prof ∧
      t.err.invalidProfile = s.err.invalidProfile ∧ (i ≠ .sync → t.fst.prof = s.fst.prof)) ∧
    (i ≠ .sfi → t.sfHz = s.sfHz ∧ t.raw.sfi = s.raw.sfi ∧
      t.err.invalidSamplingFrequency = s.err.invalidSamplingFrequency ∧ (i ≠ .sync → t.fst.sf = s.fst.sf)) ∧
    (i ≠ .chan → t.hdr.chan = s.hdr.chan ∧ t.raw.cc = s.raw.cc ∧ (i ≠ .sync → t.fst.cc = s.fst.cc)) ∧
    (i ∉ [.profile, .sfi, .chan] → t.err.truncated = s.err.truncated) ∧
    t.err.invalidChannelConfig = s.err.invalidChannelConfig ∧ t.err.sourceUnavailable = s.err.sourceUnavailable ∧
    t.err.emptyInput = s.err.emptyInput

/-- What the scanner's step (R162) leaves unchanged: everything but SI, COUNT, FST.SCAN and PHASE. The pattern rows, which leave
FST and PHASE too, are operations of their own by the model's choice (notes/assumptions/2.md); R90 gives the patterns only. -/
def Obligations.ScannerFrame : Prop :=
  ∀ (s t : State) (i : Instr),
    i ∈ [.scan, .scanPattern00, .scanPattern01, .scanPattern10, .scanPattern11] → exec i s = .next t →
    t = { s with si := t.si, count := t.count, fst := { s.fst with scan := t.fst.scan }, phase := t.phase } ∧
    (i ≠ .scan → t.fst = s.fst ∧ t.phase = s.phase) ∧ (∀ a, t.bufByte a = s.bufByte a)

/-- What a command leaves unchanged, ignored or accepted: LEN, CFG, SCANP, the host's side and every byte of the buffer; SCAN
also leaves CUR, SYNC_POS, HDR, SF_HZ, RAW, the decoder's statuses and every flag but `SourceUnavailable`. -/
def Obligations.CommandFrame : Prop :=
  ∀ (s t : State) (i : Instr),
    i ∈ [.cmdNop, .cmdDecode, .cmdScan, .cmdRun, .cmdClear, .cmdReserved5, .cmdReserved6, .cmdReserved7] →
    exec i s = .next t →
    t.len = s.len ∧ t.srcOk = s.srcOk ∧ t.scanp = s.scanp ∧ t.host = s.host ∧ t.dataOut = s.dataOut ∧ t.buf = s.buf ∧
    (∀ a, t.bufByte a = s.bufByte a) ∧
    (i = .cmdScan → t.cur = s.cur ∧ t.syncPos = s.syncPos ∧ t.hdr = s.hdr ∧ t.sfHz = s.sfHz ∧ t.raw = s.raw ∧
      { t.fst with scan := s.fst.scan } = s.fst ∧
      { t.err with sourceUnavailable := s.err.sourceUnavailable } = s.err)

/-- No row of the table, in any state, writes a byte of the buffer or the registers LEN and CFG, and none touches the host's
list (R63, R21, R22); SCANP is written by CHAN's exit in a RUN and by nothing else the block does by itself (R23, R139). That a
whole header, a pair or a value row is an operation too, and that a header writes SCANP as its exit does, is the model's choice
(notes/assumptions/2.md); so is the host's list (notes/assumptions/1.md). -/
def Obligations.NoRowWritesBufferOrParameters : Prop :=
  ∀ (s t : State) (i : Instr), exec i s = .next t →
    t.buf = s.buf ∧ (∀ a, t.bufByte a = s.bufByte a) ∧ t.len = s.len ∧ t.srcOk = s.srcOk ∧ t.host = s.host ∧
    (t.scanp ≠ s.scanp → s.mode = 3 ∧
      (i = .chan ∨ ∃ v l p h x ssss pp u6 cc u24, i = .adtsHeader v l p h x ssss pp u6 cc u24))

/-! The whole machine. -/

/-- R177: PHASE changes only as the transition table says, whichever of its moves the host makes. -/
def Obligations.PhaseFollowsTheTransitionTable : Prop :=
  ∀ s t : State, s.host.all isSpecMove = true → step s = .next t → t.phase = nextPhase s

/-- R45: in any step CUR is kept, rises by one or is cleared to 0; SI and COUNT likewise. -/
def Obligations.WorkingRegistersStepByOne : Prop :=
  ∀ s t : State, s.host.all isSpecMove = true → step s = .next t →
    (t.cur = s.cur ∨ t.cur = s.cur + 1 ∨ t.cur = 0) ∧ (t.si = s.si ∨ t.si = s.si + 1 ∨ t.si = 0) ∧
    (t.count = s.count ∨ t.count = s.count + 1 ∨ t.count = 0)

/-- R36, R202: an error flag that is set stays set in every step, the sequencer's included, except when the host asserts
reset or a CLEAR, DECODE or RUN is accepted; an accepted SCAN clears none. -/
def Obligations.ErrorFlagsAreSticky : Prop :=
  ∀ s t : State, resetsOrCommands [1, 3, 4] s = false → step s = .next t →
    ∀ c : Cause, s.err.has c = true → t.err.has c = true

/-- R190, R36: raising an error sets the one bit of ERR whose index is its cause code, 1 to 8 in the table's order, and no
other. -/
def Obligations.EachErrorSetsItsOwnBit : Prop :=
  ∀ s : State, ∀ p ∈ [(Cause.syncNotFound, 0x2#32), (.invalidLayer, 0x4#32), (.invalidProfile, 0x8#32),
      (.invalidSamplingFrequency, 0x10#32), (.invalidChannelConfig, 0x20#32), (.sourceUnavailable, 0x40#32),
      (.emptyInput, 0x80#32), (.truncated, 0x100#32)],
    regWord (raise p.1 s) 11 = regWord s 11 ||| p.2

/-- R44, R191: no step of the sequencer tests a status or an error flag: with any other FST and ERR the same step gives the
same next state in everything but FST and ERR. -/
def Obligations.StatusesDoNotSteer : Prop :=
  ∀ (s t : State) (i : Instr) (f : Fst) (e : Err),
    i ∈ [.sync, .ver, .layer, .prot, .profile, .sfi, .priv, .chan, .scan] → exec i s = .next t →
    ∃ t', exec i { s with fst := f, err := e } = .next t' ∧ { t' with fst := t.fst, err := t.err } = t

/-- R41: in DONE, until reset or an accepted DECODE, SCAN, RUN or CLEAR, no step changes PHASE, MODE or a result register,
whatever the host reads, writes or loads. -/
def Obligations.ResultsAreStableInDone : Prop :=
  ∀ s t : State, s.host.all isSpecMove = true → s.phase = 10 → resetsOrCommands [1, 2, 3, 4] s = false →
    step s = .next t →
    t.phase = 10 ∧ t.mode = s.mode ∧ reportOf t = reportOf s ∧ t.fst = s.fst ∧ t.si = s.si ∧ t.count = s.count

/-! Invariants. -/

/-- The buffer's list keeps its canonical form in every step; and the one move that writes the buffer, the host's load (R94,
R60), puts its bytes at the offsets 0, 1, 2, ... and keeps every other byte and all else. It is refused while BUSY (item U4) and
for more bytes than the largest length, 2^32 - 2 (R21). The form of the list is the model's own (notes/assumptions/3.md), and so
are the two refusals (notes/assumptions/9.md). -/
def Obligations.StepKeepsBufferForm : Prop :=
  (∀ s t : State, s.buf.wf = true → step s = .next t → t.buf.wf = true) ∧
  ∀ (s : State) (bytes : List Byte) (rest : List HostAct), s.host = .load bytes :: rest →
    (isBusy s = false → bytes.length ≤ 4294967294 →
      ∃ t, step s = .next t ∧ t = { s with host := rest, buf := t.buf } ∧
        ∀ a : Nat, t.bufByte a = (bytes[a]?).getD (s.bufByte a)) ∧
    (isBusy s = true → step s = .refused .bufferWriteWhileBusy) ∧
    (isBusy s = false → 4294967294 < bytes.length → step s = .refused .bufferTooLong)

/-- R42, R34, R35: the invariant of the machine is kept by every step. -/
def Obligations.StepKeepsRunInvariant : Prop :=
  ∀ s t : State, RunInv s → step s = .next t → RunInv t

/-- The reset state meets the invariant, with any moves of the spec's host pending, and its buffer is in canonical form. -/
def Obligations.RunInvariantAtReset : Prop :=
  State.reset.buf.wf = true ∧
  ∀ moves : List HostAct, moves.all isSpecMove = true → RunInv { State.reset with host := moves }

/-- R62: no step of a state in the invariant reads outside the buffer, so none faults; and with no move of the host pending
the step completes. The fault itself, in a state outside the invariant: VER, LAYER and PROT with CUR at or above LEN stop by it,
since R61 defines no such read (notes/assumptions/9.md). -/
def Obligations.NoStepReadsOutsideTheBuffer : Prop :=
  ∀ s : State,
    (RunInv s → (∀ f, step s ≠ .fault f) ∧ (s.host = [] → ∃ t, step s = .next t)) ∧
    (∀ i ∈ [Instr.ver, .layer, .prot], s.len.toNat ≤ s.cur.toNat →
      exec i s = .fault (.bufferOutOfRange s.cur.toNat))

/-- R126, R42 (a), in the phases in which LEN is the length the run was accepted with (notes/assumptions/10.md): in a run CUR
<= LEN + 1, SI <= LEN and COUNT <= LEN / 2, so no working register wraps. -/
def Obligations.WorkingRegistersStayBounded : Prop :=
  ∀ s : State, RunInv s →
    (1 ≤ s.phase.toNat → s.phase.toNat ≤ 8 → s.cur.toNat ≤ s.len.toNat + 1) ∧
    (s.phase = 9 → s.mode = 3 → s.cur.toNat ≤ s.len.toNat + 1) ∧
    (s.phase = 9 → s.si.toNat ≤ s.len.toNat ∧ s.count.toNat ≤ s.len.toNat / 2)

/-- R34, R27: a field of `HeaderInfo` is present exactly if its status is OK, and then it is the member its register field
stands for: 0 MPEG4 and 1 MPEG2 (R28); CRC present for 1 (R29); 1 to 4 Main, LC, SSR, LTP (R30); the hertz value (R32); 0 to 7 the
nine-member enumeration's layouts in order (R31). In a state of the invariant a value field whose status is not OK holds 0, CRC is
present exactly for the header bit 0, and the members LTP, Unknown and Reserved are never reported. -/
def Obligations.AbsentFieldsHoldFixedContents : Prop :=
  ∀ s : State,
    (((headerInfo s).mpegVersion.isSome = true ↔ s.fst.ver = .ok) ∧
      ((headerInfo s).crcPresent.isSome = true ↔ s.fst.crc = .ok) ∧
      ((headerInfo s).profile.isSome = true ↔ s.fst.prof = .ok) ∧
      ((headerInfo s).samplingFrequencyHz.isSome = true ↔ s.fst.sf = .ok) ∧
      ((headerInfo s).channelConfiguration.isSome = true ↔ s.fst.cc = .ok)) ∧
    (∀ p ∈ [(0#1, MpegVersion.mpeg4), (1#1, .mpeg2)],
      (headerInfo s).mpegVersion = some p.2 ↔ s.fst.ver = .ok ∧ s.hdr.ver = p.1) ∧
    (∀ p ∈ [(0#1, false), (1#1, true)], (headerInfo s).crcPresent = some p.2 ↔ s.fst.crc = .ok ∧ s.hdr.crc = p.1) ∧
    (∀ p ∈ [(1#3, Profile.main), (2#3, .lc), (3#3, .ssr), (4#3, .ltp)],
      (headerInfo s).profile = some p.2 ↔ s.fst.prof = .ok ∧ s.hdr.profile = p.1) ∧
    (∀ hz : Nat, (headerInfo s).samplingFrequencyHz = some hz ↔ s.fst.sf = .ok ∧ s.sfHz.toNat = hz) ∧
    (∀ p ∈ [(0#4, ChannelConfig.inbandPce), (1#4, .frontCenter), (2#4, .frontLr), (3#4, .frontClr), (4#4, .quad),
        (5#4, .five), (6#4, .fiveOneLfe), (7#4, .sevenOneLfe)],
      (headerInfo s).channelConfiguration = some p.2 ↔ s.fst.cc = .ok ∧ s.hdr.chan = p.1) ∧
    (RunInv s →
      (s.fst.ver ≠ .ok → s.hdr.ver = 0) ∧ (s.fst.crc ≠ .ok → s.hdr.crc = 0) ∧ (s.fst.prof ≠ .ok → s.hdr.profile = 0) ∧
      (s.fst.sf ≠ .ok → s.sfHz = 0) ∧ (s.fst.cc ≠ .ok → s.hdr.chan = 0) ∧
      ((headerInfo s).crcPresent = some true ↔ s.fst.crc = .ok ∧ s.raw.pa = 0) ∧
      (headerInfo s).profile ≠ some .ltp ∧ (headerInfo s).profile ≠ some .unknown ∧
      (headerInfo s).channelConfiguration ≠ some .reserved)

/-! Runs. -/

/-- R141, R231: a DECODE accepted on a readable, non-empty buffer ends in DONE after exactly the spec's number of sequencer
steps, `(j + 1) + 7` with a candidate at `j` and `LEN` without, having been in another phase after every smaller number, and
leaves the report that the one function of the buffer gives; the parameters, the buffer and the scan's registers are as the
command left them. -/
def Obligations.DecodeRunGivesTheReport : Prop :=
  ∀ s : State, isBusy s = false → s.host = [] → s.srcOk = 1 → 1 ≤ s.len.toNat → s.len ≠ 4294967295#32 →
    ∃ s0 t, exec .cmdDecode s = .next s0 ∧
      (∀ m < (match firstCandidate s with | some j => j + 1 + 7 | none => s.len.toNat),
        ∃ u, runSteps m s0 = .next u ∧ u.phase ≠ 10) ∧
      runSteps (match firstCandidate s with | some j => j + 1 + 7 | none => s.len.toNat) s0 = .next t ∧
      t.phase = 10 ∧ t.mode = 1 ∧ reportOf t = decodeReport s ∧ t.fst.scan = .none ∧ t.si = 0 ∧ t.count = 0 ∧
      t.len = s.len ∧ t.srcOk = s.srcOk ∧ t.scanp = s.scanp ∧ t.buf = s.buf ∧ t.host = [] ∧ t.dataOut = s.dataOut

/-- R163, R162, R231: a SCAN accepted on a readable buffer ends in DONE after exactly `max(LEN - 1, 0) + 1` steps, having been
in SCAN after every smaller number, with COUNT the number of positions that match SCANP and SI at `max(LEN - 1, 0)`; nothing
else but MODE and FST.SCAN has changed. -/
def Obligations.ScanRunCountsTheMatches : Prop :=
  ∀ s : State, isBusy s = false → s.host = [] → s.srcOk = 1 → s.len ≠ 4294967295#32 →
    ∃ s0, exec .cmdScan s = .next s0 ∧
      (∀ m < s.len.toNat - 1 + 1, ∃ u, runSteps m s0 = .next u ∧ u.phase = 9) ∧
      runSteps (s.len.toNat - 1 + 1) s0 = .next { s with
        mode := 2, phase := 10, si := BitVec.ofNat 32 (s.len.toNat - 1),
        count := BitVec.ofNat 32 (scanCount s s.scanp), fst := { s.fst with scan := .ok } } ∧
      scanCount s s.scanp ≤ s.len.toNat / 2

/-- R175: where there is a candidate, RUN ends as DECODE, then SCANP written with HDR[1:0], then SCAN, in every register but
MODE. -/
def Obligations.RunIsDecodeThenScan : Prop :=
  ∀ s : State, isBusy s = false → s.host = [] → s.srcOk = 1 → s.len ≠ 4294967295#32 →
    (∃ j, firstCandidate s = some j) →
    ∃ kr kd ks s0 s1 s2 tr td ts,
      exec .cmdRun s = .next s0 ∧ runSteps kr s0 = .next tr ∧ tr.phase = 10 ∧
      exec .cmdDecode s = .next s1 ∧ runSteps kd s1 = .next td ∧ td.phase = 10 ∧
      exec .cmdScan { td with scanp := ⟨td.hdr.ver, td.hdr.crc⟩ } = .next s2 ∧ runSteps ks s2 = .next ts ∧
      ts.phase = 10 ∧ tr = { ts with mode := 3 }

/-- R174, R131: where there is no candidate, a RUN on a non-empty buffer ends after exactly LEN steps, having been in
SYNC after every smaller number, in DONE with the report of `SyncNotFound`; the scan is skipped, FST.SCAN UNREAD, COUNT and SI
0, and SCANP keeps its value; and every scan of that buffer would have counted 0 (R166). -/
def Obligations.RunWithoutCandidateSkipsTheScan : Prop :=
  ∀ s : State, isBusy s = false → s.host = [] → s.srcOk = 1 → 1 ≤ s.len.toNat → s.len ≠ 4294967295#32 →
    firstCandidate s = none →
    ∃ s0 t, exec .cmdRun s = .next s0 ∧ (∀ m < s.len.toNat, ∃ u, runSteps m s0 = .next u ∧ u.phase = 1) ∧
      runSteps s.len.toNat s0 = .next t ∧ t.phase = 10 ∧ t.mode = 3 ∧
      reportOf t = decodeReport s ∧ t.fst.scan = .unread ∧ t.si = 0 ∧ t.count = 0 ∧ t.scanp = s.scanp ∧
      (∀ p : Scanp, scanCount s p = 0)

/-- R141, R142, R82: eight sequencer steps from SYNC with the cursor on a candidate whose header has four bytes in the buffer
give what the header's row gives in one; the three bytes after it may be anything. That a header is an operation of its own is
the model's choice (notes/assumptions/2.md). -/
def Obligations.HeaderRowIsEightSteps : Prop :=
  ∀ (s : State) (i : Instr) (b4 b5 b6 : Byte), s.host = [] → s.phase = 1 → s.cur.toNat + 3 < s.len.toNat →
    decodeBytes .header [s.bufByte s.cur.toNat, s.bufByte (s.cur.toNat + 1), s.bufByte (s.cur.toNat + 2),
      s.bufByte (s.cur.toNat + 3), b4, b5, b6] = .ok i →
    runSteps 8 s = exec i s

/-- R145: the decoder's report depends on the buffer below LEN and on LEN alone: a DECODE in one state and a RUN in another
with the same bytes leave the same report, whatever SCANP, MODE and the earlier results were. -/
def Obligations.ReportDependsOnTheBufferAlone : Prop :=
  ∀ s1 s2 : State, isBusy s1 = false → isBusy s2 = false → s1.host = [] → s2.host = [] → s1.srcOk = 1 → s2.srcOk = 1 →
    1 ≤ s1.len.toNat → s1.len ≠ 4294967295#32 → s2.len = s1.len →
    (∀ a, a < s1.len.toNat → s2.bufByte a = s1.bufByte a) →
    ∃ k1 k2 u1 u2 t1 t2, exec .cmdDecode s1 = .next u1 ∧ runSteps k1 u1 = .next t1 ∧ t1.phase = 10 ∧
      exec .cmdRun s2 = .next u2 ∧ runSteps k2 u2 = .next t2 ∧ t2.phase = 10 ∧ reportOf t2 = reportOf t1

/-- R164, R166, R144: two matches never stand at adjacent positions; every match is a candidate; and after a half match, a
0xFF whose second byte is no candidate's, the next position holds no candidate either. -/
def Obligations.MatchesDoNotOverlap : Prop :=
  ∀ (s : State) (p q : Scanp) (i : Nat),
    (patternAt s p i = true → patternAt s q (i + 1) = false) ∧ (patternAt s p i = true → candidateAt s i = true) ∧
    (i + 1 < s.len.toNat → s.bufByte i = 0xFF#8 → candidateAt s i = false → candidateAt s (i + 1) = false) ∧
    scanCount s p ≤ s.len.toNat / 2
end

