-- ==== Sys2Proof/Laws/State.lean ====
section
/-! SUPPORT. One lemma per field per register update, true by `rfl`, so that no later proof unfolds an update. -/

namespace Sys2Proof.Machine

section setLen
variable (s : State) (v : Word)
@[simp] theorem setLen_len : (s.setLen v).len = v := rfl
@[simp] theorem setLen_srcOk : (s.setLen v).srcOk = s.srcOk := rfl
@[simp] theorem setLen_scanp : (s.setLen v).scanp = s.scanp := rfl
@[simp] theorem setLen_phase : (s.setLen v).phase = s.phase := rfl
@[simp] theorem setLen_mode : (s.setLen v).mode = s.mode := rfl
@[simp] theorem setLen_cur : (s.setLen v).cur = s.cur := rfl
@[simp] theorem setLen_syncPos : (s.setLen v).syncPos = s.syncPos := rfl
@[simp] theorem setLen_si : (s.setLen v).si = s.si := rfl
@[simp] theorem setLen_count : (s.setLen v).count = s.count := rfl
@[simp] theorem setLen_hdr : (s.setLen v).hdr = s.hdr := rfl
@[simp] theorem setLen_sfHz : (s.setLen v).sfHz = s.sfHz := rfl
@[simp] theorem setLen_raw : (s.setLen v).raw = s.raw := rfl
@[simp] theorem setLen_fst : (s.setLen v).fst = s.fst := rfl
@[simp] theorem setLen_err : (s.setLen v).err = s.err := rfl
@[simp] theorem setLen_buf : (s.setLen v).buf = s.buf := rfl
@[simp] theorem setLen_host : (s.setLen v).host = s.host := rfl
@[simp] theorem setLen_dataOut : (s.setLen v).dataOut = s.dataOut := rfl
end setLen

section setSrcOk
variable (s : State) (v : BitVec 1)
@[simp] theorem setSrcOk_len : (s.setSrcOk v).len = s.len := rfl
@[simp] theorem setSrcOk_srcOk : (s.setSrcOk v).srcOk = v := rfl
@[simp] theorem setSrcOk_scanp : (s.setSrcOk v).scanp = s.scanp := rfl
@[simp] theorem setSrcOk_phase : (s.setSrcOk v).phase = s.phase := rfl
@[simp] theorem setSrcOk_mode : (s.setSrcOk v).mode = s.mode := rfl
@[simp] theorem setSrcOk_cur : (s.setSrcOk v).cur = s.cur := rfl
@[simp] theorem setSrcOk_syncPos : (s.setSrcOk v).syncPos = s.syncPos := rfl
@[simp] theorem setSrcOk_si : (s.setSrcOk v).si = s.si := rfl
@[simp] theorem setSrcOk_count : (s.setSrcOk v).count = s.count := rfl
@[simp] theorem setSrcOk_hdr : (s.setSrcOk v).hdr = s.hdr := rfl
@[simp] theorem setSrcOk_sfHz : (s.setSrcOk v).sfHz = s.sfHz := rfl
@[simp] theorem setSrcOk_raw : (s.setSrcOk v).raw = s.raw := rfl
@[simp] theorem setSrcOk_fst : (s.setSrcOk v).fst = s.fst := rfl
@[simp] theorem setSrcOk_err : (s.setSrcOk v).err = s.err := rfl
@[simp] theorem setSrcOk_buf : (s.setSrcOk v).buf = s.buf := rfl
@[simp] theorem setSrcOk_host : (s.setSrcOk v).host = s.host := rfl
@[simp] theorem setSrcOk_dataOut : (s.setSrcOk v).dataOut = s.dataOut := rfl
end setSrcOk

section setScanp
variable (s : State) (v : Scanp)
@[simp] theorem setScanp_len : (s.setScanp v).len = s.len := rfl
@[simp] theorem setScanp_srcOk : (s.setScanp v).srcOk = s.srcOk := rfl
@[simp] theorem setScanp_scanp : (s.setScanp v).scanp = v := rfl
@[simp] theorem setScanp_phase : (s.setScanp v).phase = s.phase := rfl
@[simp] theorem setScanp_mode : (s.setScanp v).mode = s.mode := rfl
@[simp] theorem setScanp_cur : (s.setScanp v).cur = s.cur := rfl
@[simp] theorem setScanp_syncPos : (s.setScanp v).syncPos = s.syncPos := rfl
@[simp] theorem setScanp_si : (s.setScanp v).si = s.si := rfl
@[simp] theorem setScanp_count : (s.setScanp v).count = s.count := rfl
@[simp] theorem setScanp_hdr : (s.setScanp v).hdr = s.hdr := rfl
@[simp] theorem setScanp_sfHz : (s.setScanp v).sfHz = s.sfHz := rfl
@[simp] theorem setScanp_raw : (s.setScanp v).raw = s.raw := rfl
@[simp] theorem setScanp_fst : (s.setScanp v).fst = s.fst := rfl
@[simp] theorem setScanp_err : (s.setScanp v).err = s.err := rfl
@[simp] theorem setScanp_buf : (s.setScanp v).buf = s.buf := rfl
@[simp] theorem setScanp_host : (s.setScanp v).host = s.host := rfl
@[simp] theorem setScanp_dataOut : (s.setScanp v).dataOut = s.dataOut := rfl
end setScanp

section setPhase
variable (s : State) (v : BitVec 4)
@[simp] theorem setPhase_len : (s.setPhase v).len = s.len := rfl
@[simp] theorem setPhase_srcOk : (s.setPhase v).srcOk = s.srcOk := rfl
@[simp] theorem setPhase_scanp : (s.setPhase v).scanp = s.scanp := rfl
@[simp] theorem setPhase_phase : (s.setPhase v).phase = v := rfl
@[simp] theorem setPhase_mode : (s.setPhase v).mode = s.mode := rfl
@[simp] theorem setPhase_cur : (s.setPhase v).cur = s.cur := rfl
@[simp] theorem setPhase_syncPos : (s.setPhase v).syncPos = s.syncPos := rfl
@[simp] theorem setPhase_si : (s.setPhase v).si = s.si := rfl
@[simp] theorem setPhase_count : (s.setPhase v).count = s.count := rfl
@[simp] theorem setPhase_hdr : (s.setPhase v).hdr = s.hdr := rfl
@[simp] theorem setPhase_sfHz : (s.setPhase v).sfHz = s.sfHz := rfl
@[simp] theorem setPhase_raw : (s.setPhase v).raw = s.raw := rfl
@[simp] theorem setPhase_fst : (s.setPhase v).fst = s.fst := rfl
@[simp] theorem setPhase_err : (s.setPhase v).err = s.err := rfl
@[simp] theorem setPhase_buf : (s.setPhase v).buf = s.buf := rfl
@[simp] theorem setPhase_host : (s.setPhase v).host = s.host := rfl
@[simp] theorem setPhase_dataOut : (s.setPhase v).dataOut = s.dataOut := rfl
end setPhase

section setMode
variable (s : State) (v : BitVec 2)
@[simp] theorem setMode_len : (s.setMode v).len = s.len := rfl
@[simp] theorem setMode_srcOk : (s.setMode v).srcOk = s.srcOk := rfl
@[simp] theorem setMode_scanp : (s.setMode v).scanp = s.scanp := rfl
@[simp] theorem setMode_phase : (s.setMode v).phase = s.phase := rfl
@[simp] theorem setMode_mode : (s.setMode v).mode = v := rfl
@[simp] theorem setMode_cur : (s.setMode v).cur = s.cur := rfl
@[simp] theorem setMode_syncPos : (s.setMode v).syncPos = s.syncPos := rfl
@[simp] theorem setMode_si : (s.setMode v).si = s.si := rfl
@[simp] theorem setMode_count : (s.setMode v).count = s.count := rfl
@[simp] theorem setMode_hdr : (s.setMode v).hdr = s.hdr := rfl
@[simp] theorem setMode_sfHz : (s.setMode v).sfHz = s.sfHz := rfl
@[simp] theorem setMode_raw : (s.setMode v).raw = s.raw := rfl
@[simp] theorem setMode_fst : (s.setMode v).fst = s.fst := rfl
@[simp] theorem setMode_err : (s.setMode v).err = s.err := rfl
@[simp] theorem setMode_buf : (s.setMode v).buf = s.buf := rfl
@[simp] theorem setMode_host : (s.setMode v).host = s.host := rfl
@[simp] theorem setMode_dataOut : (s.setMode v).dataOut = s.dataOut := rfl
end setMode

section setCur
variable (s : State) (v : Word)
@[simp] theorem setCur_len : (s.setCur v).len = s.len := rfl
@[simp] theorem setCur_srcOk : (s.setCur v).srcOk = s.srcOk := rfl
@[simp] theorem setCur_scanp : (s.setCur v).scanp = s.scanp := rfl
@[simp] theorem setCur_phase : (s.setCur v).phase = s.phase := rfl
@[simp] theorem setCur_mode : (s.setCur v).mode = s.mode := rfl
@[simp] theorem setCur_cur : (s.setCur v).cur = v := rfl
@[simp] theorem setCur_syncPos : (s.setCur v).syncPos = s.syncPos := rfl
@[simp] theorem setCur_si : (s.setCur v).si = s.si := rfl
@[simp] theorem setCur_count : (s.setCur v).count = s.count := rfl
@[simp] theorem setCur_hdr : (s.setCur v).hdr = s.hdr := rfl
@[simp] theorem setCur_sfHz : (s.setCur v).sfHz = s.sfHz := rfl
@[simp] theorem setCur_raw : (s.setCur v).raw = s.raw := rfl
@[simp] theorem setCur_fst : (s.setCur v).fst = s.fst := rfl
@[simp] theorem setCur_err : (s.setCur v).err = s.err := rfl
@[simp] theorem setCur_buf : (s.setCur v).buf = s.buf := rfl
@[simp] theorem setCur_host : (s.setCur v).host = s.host := rfl
@[simp] theorem setCur_dataOut : (s.setCur v).dataOut = s.dataOut := rfl
end setCur

section setSyncPos
variable (s : State) (v : Word)
@[simp] theorem setSyncPos_len : (s.setSyncPos v).len = s.len := rfl
@[simp] theorem setSyncPos_srcOk : (s.setSyncPos v).srcOk = s.srcOk := rfl
@[simp] theorem setSyncPos_scanp : (s.setSyncPos v).scanp = s.scanp := rfl
@[simp] theorem setSyncPos_phase : (s.setSyncPos v).phase = s.phase := rfl
@[simp] theorem setSyncPos_mode : (s.setSyncPos v).mode = s.mode := rfl
@[simp] theorem setSyncPos_cur : (s.setSyncPos v).cur = s.cur := rfl
@[simp] theorem setSyncPos_syncPos : (s.setSyncPos v).syncPos = v := rfl
@[simp] theorem setSyncPos_si : (s.setSyncPos v).si = s.si := rfl
@[simp] theorem setSyncPos_count : (s.setSyncPos v).count = s.count := rfl
@[simp] theorem setSyncPos_hdr : (s.setSyncPos v).hdr = s.hdr := rfl
@[simp] theorem setSyncPos_sfHz : (s.setSyncPos v).sfHz = s.sfHz := rfl
@[simp] theorem setSyncPos_raw : (s.setSyncPos v).raw = s.raw := rfl
@[simp] theorem setSyncPos_fst : (s.setSyncPos v).fst = s.fst := rfl
@[simp] theorem setSyncPos_err : (s.setSyncPos v).err = s.err := rfl
@[simp] theorem setSyncPos_buf : (s.setSyncPos v).buf = s.buf := rfl
@[simp] theorem setSyncPos_host : (s.setSyncPos v).host = s.host := rfl
@[simp] theorem setSyncPos_dataOut : (s.setSyncPos v).dataOut = s.dataOut := rfl
end setSyncPos

section setSi
variable (s : State) (v : Word)
@[simp] theorem setSi_len : (s.setSi v).len = s.len := rfl
@[simp] theorem setSi_srcOk : (s.setSi v).srcOk = s.srcOk := rfl
@[simp] theorem setSi_scanp : (s.setSi v).scanp = s.scanp := rfl
@[simp] theorem setSi_phase : (s.setSi v).phase = s.phase := rfl
@[simp] theorem setSi_mode : (s.setSi v).mode = s.mode := rfl
@[simp] theorem setSi_cur : (s.setSi v).cur = s.cur := rfl
@[simp] theorem setSi_syncPos : (s.setSi v).syncPos = s.syncPos := rfl
@[simp] theorem setSi_si : (s.setSi v).si = v := rfl
@[simp] theorem setSi_count : (s.setSi v).count = s.count := rfl
@[simp] theorem setSi_hdr : (s.setSi v).hdr = s.hdr := rfl
@[simp] theorem setSi_sfHz : (s.setSi v).sfHz = s.sfHz := rfl
@[simp] theorem setSi_raw : (s.setSi v).raw = s.raw := rfl
@[simp] theorem setSi_fst : (s.setSi v).fst = s.fst := rfl
@[simp] theorem setSi_err : (s.setSi v).err = s.err := rfl
@[simp] theorem setSi_buf : (s.setSi v).buf = s.buf := rfl
@[simp] theorem setSi_host : (s.setSi v).host = s.host := rfl
@[simp] theorem setSi_dataOut : (s.setSi v).dataOut = s.dataOut := rfl
end setSi

section setCount
variable (s : State) (v : Word)
@[simp] theorem setCount_len : (s.setCount v).len = s.len := rfl
@[simp] theorem setCount_srcOk : (s.setCount v).srcOk = s.srcOk := rfl
@[simp] theorem setCount_scanp : (s.setCount v).scanp = s.scanp := rfl
@[simp] theorem setCount_phase : (s.setCount v).phase = s.phase := rfl
@[simp] theorem setCount_mode : (s.setCount v).mode = s.mode := rfl
@[simp] theorem setCount_cur : (s.setCount v).cur = s.cur := rfl
@[simp] theorem setCount_syncPos : (s.setCount v).syncPos = s.syncPos := rfl
@[simp] theorem setCount_si : (s.setCount v).si = s.si := rfl
@[simp] theorem setCount_count : (s.setCount v).count = v := rfl
@[simp] theorem setCount_hdr : (s.setCount v).hdr = s.hdr := rfl
@[simp] theorem setCount_sfHz : (s.setCount v).sfHz = s.sfHz := rfl
@[simp] theorem setCount_raw : (s.setCount v).raw = s.raw := rfl
@[simp] theorem setCount_fst : (s.setCount v).fst = s.fst := rfl
@[simp] theorem setCount_err : (s.setCount v).err = s.err := rfl
@[simp] theorem setCount_buf : (s.setCount v).buf = s.buf := rfl
@[simp] theorem setCount_host : (s.setCount v).host = s.host := rfl
@[simp] theorem setCount_dataOut : (s.setCount v).dataOut = s.dataOut := rfl
end setCount

section setHdr
variable (s : State) (v : Hdr)
@[simp] theorem setHdr_len : (s.setHdr v).len = s.len := rfl
@[simp] theorem setHdr_srcOk : (s.setHdr v).srcOk = s.srcOk := rfl
@[simp] theorem setHdr_scanp : (s.setHdr v).scanp = s.scanp := rfl
@[simp] theorem setHdr_phase : (s.setHdr v).phase = s.phase := rfl
@[simp] theorem setHdr_mode : (s.setHdr v).mode = s.mode := rfl
@[simp] theorem setHdr_cur : (s.setHdr v).cur = s.cur := rfl
@[simp] theorem setHdr_syncPos : (s.setHdr v).syncPos = s.syncPos := rfl
@[simp] theorem setHdr_si : (s.setHdr v).si = s.si := rfl
@[simp] theorem setHdr_count : (s.setHdr v).count = s.count := rfl
@[simp] theorem setHdr_hdr : (s.setHdr v).hdr = v := rfl
@[simp] theorem setHdr_sfHz : (s.setHdr v).sfHz = s.sfHz := rfl
@[simp] theorem setHdr_raw : (s.setHdr v).raw = s.raw := rfl
@[simp] theorem setHdr_fst : (s.setHdr v).fst = s.fst := rfl
@[simp] theorem setHdr_err : (s.setHdr v).err = s.err := rfl
@[simp] theorem setHdr_buf : (s.setHdr v).buf = s.buf := rfl
@[simp] theorem setHdr_host : (s.setHdr v).host = s.host := rfl
@[simp] theorem setHdr_dataOut : (s.setHdr v).dataOut = s.dataOut := rfl
end setHdr

section setSfHz
variable (s : State) (v : BitVec 17)
@[simp] theorem setSfHz_len : (s.setSfHz v).len = s.len := rfl
@[simp] theorem setSfHz_srcOk : (s.setSfHz v).srcOk = s.srcOk := rfl
@[simp] theorem setSfHz_scanp : (s.setSfHz v).scanp = s.scanp := rfl
@[simp] theorem setSfHz_phase : (s.setSfHz v).phase = s.phase := rfl
@[simp] theorem setSfHz_mode : (s.setSfHz v).mode = s.mode := rfl
@[simp] theorem setSfHz_cur : (s.setSfHz v).cur = s.cur := rfl
@[simp] theorem setSfHz_syncPos : (s.setSfHz v).syncPos = s.syncPos := rfl
@[simp] theorem setSfHz_si : (s.setSfHz v).si = s.si := rfl
@[simp] theorem setSfHz_count : (s.setSfHz v).count = s.count := rfl
@[simp] theorem setSfHz_hdr : (s.setSfHz v).hdr = s.hdr := rfl
@[simp] theorem setSfHz_sfHz : (s.setSfHz v).sfHz = v := rfl
@[simp] theorem setSfHz_raw : (s.setSfHz v).raw = s.raw := rfl
@[simp] theorem setSfHz_fst : (s.setSfHz v).fst = s.fst := rfl
@[simp] theorem setSfHz_err : (s.setSfHz v).err = s.err := rfl
@[simp] theorem setSfHz_buf : (s.setSfHz v).buf = s.buf := rfl
@[simp] theorem setSfHz_host : (s.setSfHz v).host = s.host := rfl
@[simp] theorem setSfHz_dataOut : (s.setSfHz v).dataOut = s.dataOut := rfl
end setSfHz

section setRaw
variable (s : State) (v : Raw)
@[simp] theorem setRaw_len : (s.setRaw v).len = s.len := rfl
@[simp] theorem setRaw_srcOk : (s.setRaw v).srcOk = s.srcOk := rfl
@[simp] theorem setRaw_scanp : (s.setRaw v).scanp = s.scanp := rfl
@[simp] theorem setRaw_phase : (s.setRaw v).phase = s.phase := rfl
@[simp] theorem setRaw_mode : (s.setRaw v).mode = s.mode := rfl
@[simp] theorem setRaw_cur : (s.setRaw v).cur = s.cur := rfl
@[simp] theorem setRaw_syncPos : (s.setRaw v).syncPos = s.syncPos := rfl
@[simp] theorem setRaw_si : (s.setRaw v).si = s.si := rfl
@[simp] theorem setRaw_count : (s.setRaw v).count = s.count := rfl
@[simp] theorem setRaw_hdr : (s.setRaw v).hdr = s.hdr := rfl
@[simp] theorem setRaw_sfHz : (s.setRaw v).sfHz = s.sfHz := rfl
@[simp] theorem setRaw_raw : (s.setRaw v).raw = v := rfl
@[simp] theorem setRaw_fst : (s.setRaw v).fst = s.fst := rfl
@[simp] theorem setRaw_err : (s.setRaw v).err = s.err := rfl
@[simp] theorem setRaw_buf : (s.setRaw v).buf = s.buf := rfl
@[simp] theorem setRaw_host : (s.setRaw v).host = s.host := rfl
@[simp] theorem setRaw_dataOut : (s.setRaw v).dataOut = s.dataOut := rfl
end setRaw

section setFst
variable (s : State) (v : Fst)
@[simp] theorem setFst_len : (s.setFst v).len = s.len := rfl
@[simp] theorem setFst_srcOk : (s.setFst v).srcOk = s.srcOk := rfl
@[simp] theorem setFst_scanp : (s.setFst v).scanp = s.scanp := rfl
@[simp] theorem setFst_phase : (s.setFst v).phase = s.phase := rfl
@[simp] theorem setFst_mode : (s.setFst v).mode = s.mode := rfl
@[simp] theorem setFst_cur : (s.setFst v).cur = s.cur := rfl
@[simp] theorem setFst_syncPos : (s.setFst v).syncPos = s.syncPos := rfl
@[simp] theorem setFst_si : (s.setFst v).si = s.si := rfl
@[simp] theorem setFst_count : (s.setFst v).count = s.count := rfl
@[simp] theorem setFst_hdr : (s.setFst v).hdr = s.hdr := rfl
@[simp] theorem setFst_sfHz : (s.setFst v).sfHz = s.sfHz := rfl
@[simp] theorem setFst_raw : (s.setFst v).raw = s.raw := rfl
@[simp] theorem setFst_fst : (s.setFst v).fst = v := rfl
@[simp] theorem setFst_err : (s.setFst v).err = s.err := rfl
@[simp] theorem setFst_buf : (s.setFst v).buf = s.buf := rfl
@[simp] theorem setFst_host : (s.setFst v).host = s.host := rfl
@[simp] theorem setFst_dataOut : (s.setFst v).dataOut = s.dataOut := rfl
end setFst

section setErr
variable (s : State) (v : Err)
@[simp] theorem setErr_len : (s.setErr v).len = s.len := rfl
@[simp] theorem setErr_srcOk : (s.setErr v).srcOk = s.srcOk := rfl
@[simp] theorem setErr_scanp : (s.setErr v).scanp = s.scanp := rfl
@[simp] theorem setErr_phase : (s.setErr v).phase = s.phase := rfl
@[simp] theorem setErr_mode : (s.setErr v).mode = s.mode := rfl
@[simp] theorem setErr_cur : (s.setErr v).cur = s.cur := rfl
@[simp] theorem setErr_syncPos : (s.setErr v).syncPos = s.syncPos := rfl
@[simp] theorem setErr_si : (s.setErr v).si = s.si := rfl
@[simp] theorem setErr_count : (s.setErr v).count = s.count := rfl
@[simp] theorem setErr_hdr : (s.setErr v).hdr = s.hdr := rfl
@[simp] theorem setErr_sfHz : (s.setErr v).sfHz = s.sfHz := rfl
@[simp] theorem setErr_raw : (s.setErr v).raw = s.raw := rfl
@[simp] theorem setErr_fst : (s.setErr v).fst = s.fst := rfl
@[simp] theorem setErr_err : (s.setErr v).err = v := rfl
@[simp] theorem setErr_buf : (s.setErr v).buf = s.buf := rfl
@[simp] theorem setErr_host : (s.setErr v).host = s.host := rfl
@[simp] theorem setErr_dataOut : (s.setErr v).dataOut = s.dataOut := rfl
end setErr

section setBuf
variable (s : State) (v : Memory)
@[simp] theorem setBuf_len : (s.setBuf v).len = s.len := rfl
@[simp] theorem setBuf_srcOk : (s.setBuf v).srcOk = s.srcOk := rfl
@[simp] theorem setBuf_scanp : (s.setBuf v).scanp = s.scanp := rfl
@[simp] theorem setBuf_phase : (s.setBuf v).phase = s.phase := rfl
@[simp] theorem setBuf_mode : (s.setBuf v).mode = s.mode := rfl
@[simp] theorem setBuf_cur : (s.setBuf v).cur = s.cur := rfl
@[simp] theorem setBuf_syncPos : (s.setBuf v).syncPos = s.syncPos := rfl
@[simp] theorem setBuf_si : (s.setBuf v).si = s.si := rfl
@[simp] theorem setBuf_count : (s.setBuf v).count = s.count := rfl
@[simp] theorem setBuf_hdr : (s.setBuf v).hdr = s.hdr := rfl
@[simp] theorem setBuf_sfHz : (s.setBuf v).sfHz = s.sfHz := rfl
@[simp] theorem setBuf_raw : (s.setBuf v).raw = s.raw := rfl
@[simp] theorem setBuf_fst : (s.setBuf v).fst = s.fst := rfl
@[simp] theorem setBuf_err : (s.setBuf v).err = s.err := rfl
@[simp] theorem setBuf_buf : (s.setBuf v).buf = v := rfl
@[simp] theorem setBuf_host : (s.setBuf v).host = s.host := rfl
@[simp] theorem setBuf_dataOut : (s.setBuf v).dataOut = s.dataOut := rfl
end setBuf

section setHost
variable (s : State) (v : List HostAct)
@[simp] theorem setHost_len : (s.setHost v).len = s.len := rfl
@[simp] theorem setHost_srcOk : (s.setHost v).srcOk = s.srcOk := rfl
@[simp] theorem setHost_scanp : (s.setHost v).scanp = s.scanp := rfl
@[simp] theorem setHost_phase : (s.setHost v).phase = s.phase := rfl
@[simp] theorem setHost_mode : (s.setHost v).mode = s.mode := rfl
@[simp] theorem setHost_cur : (s.setHost v).cur = s.cur := rfl
@[simp] theorem setHost_syncPos : (s.setHost v).syncPos = s.syncPos := rfl
@[simp] theorem setHost_si : (s.setHost v).si = s.si := rfl
@[simp] theorem setHost_count : (s.setHost v).count = s.count := rfl
@[simp] theorem setHost_hdr : (s.setHost v).hdr = s.hdr := rfl
@[simp] theorem setHost_sfHz : (s.setHost v).sfHz = s.sfHz := rfl
@[simp] theorem setHost_raw : (s.setHost v).raw = s.raw := rfl
@[simp] theorem setHost_fst : (s.setHost v).fst = s.fst := rfl
@[simp] theorem setHost_err : (s.setHost v).err = s.err := rfl
@[simp] theorem setHost_buf : (s.setHost v).buf = s.buf := rfl
@[simp] theorem setHost_host : (s.setHost v).host = v := rfl
@[simp] theorem setHost_dataOut : (s.setHost v).dataOut = s.dataOut := rfl
end setHost

section setDataOut
variable (s : State) (v : Word)
@[simp] theorem setDataOut_len : (s.setDataOut v).len = s.len := rfl
@[simp] theorem setDataOut_srcOk : (s.setDataOut v).srcOk = s.srcOk := rfl
@[simp] theorem setDataOut_scanp : (s.setDataOut v).scanp = s.scanp := rfl
@[simp] theorem setDataOut_phase : (s.setDataOut v).phase = s.phase := rfl
@[simp] theorem setDataOut_mode : (s.setDataOut v).mode = s.mode := rfl
@[simp] theorem setDataOut_cur : (s.setDataOut v).cur = s.cur := rfl
@[simp] theorem setDataOut_syncPos : (s.setDataOut v).syncPos = s.syncPos := rfl
@[simp] theorem setDataOut_si : (s.setDataOut v).si = s.si := rfl
@[simp] theorem setDataOut_count : (s.setDataOut v).count = s.count := rfl
@[simp] theorem setDataOut_hdr : (s.setDataOut v).hdr = s.hdr := rfl
@[simp] theorem setDataOut_sfHz : (s.setDataOut v).sfHz = s.sfHz := rfl
@[simp] theorem setDataOut_raw : (s.setDataOut v).raw = s.raw := rfl
@[simp] theorem setDataOut_fst : (s.setDataOut v).fst = s.fst := rfl
@[simp] theorem setDataOut_err : (s.setDataOut v).err = s.err := rfl
@[simp] theorem setDataOut_buf : (s.setDataOut v).buf = s.buf := rfl
@[simp] theorem setDataOut_host : (s.setDataOut v).host = s.host := rfl
@[simp] theorem setDataOut_dataOut : (s.setDataOut v).dataOut = v := rfl
end setDataOut

end Sys2Proof.Machine
end

