-- ==== Sys2Proof/Laws/Memory.lean ====
section
/-! SUPPORT. The buffer's laws: every operation keeps the canonical form, and what a read gives after a write or a load. -/

namespace Sys2Proof.Machine

theorem Memory.rising_mono {lo lo' : Nat} {m : Memory} (h : Memory.rising lo m) (hle : lo' ≤ lo) :
    Memory.rising lo' m := by
  cases m with
  | nil => rfl
  | cons e rest =>
    obtain ⟨k, b⟩ := e
    simp only [Memory.rising, Bool.and_eq_true, decide_eq_true_eq] at h ⊢
    exact ⟨⟨by omega, h.1.2⟩, h.2⟩

theorem Memory.rising_write {lo : Nat} {m : Memory} {a : Nat} {b : Byte} (h : Memory.rising lo m) (hlo : lo ≤ a)
    (ha : a < Config.lenMax) : Memory.rising lo (m.write a b) := by
  induction m generalizing lo with
  | nil => simp [Memory.write, Memory.rising, hlo, ha]
  | cons e rest ih =>
    obtain ⟨k, c⟩ := e
    simp only [Memory.rising, Bool.and_eq_true, decide_eq_true_eq] at h
    simp only [Memory.write]
    split
    · simp only [Memory.rising, Bool.and_eq_true, decide_eq_true_eq]
      exact ⟨⟨hlo, ha⟩, ⟨by omega, h.1.2⟩, h.2⟩
    · split
      · subst_vars
        simp only [Memory.rising, Bool.and_eq_true, decide_eq_true_eq]
        exact ⟨⟨hlo, ha⟩, h.2⟩
      · simp only [Memory.rising, Bool.and_eq_true, decide_eq_true_eq]
        exact ⟨h.1, ih h.2 (by omega)⟩

/-- A write below `LEN_MAX` keeps the canonical form. -/
theorem Memory.wf_write {m : Memory} {a : Nat} {b : Byte} (h : m.wf) (ha : a < Config.lenMax) : (m.write a b).wf :=
  Memory.rising_write h (Nat.zero_le _) ha

/-- A load that ends at or below `LEN_MAX` keeps the canonical form. -/
theorem Memory.wf_load {m : Memory} {a : Nat} {bs : List Byte} (h : m.wf) (ha : a + bs.length ≤ Config.lenMax) :
    (m.load a bs).wf := by
  induction bs generalizing m a with
  | nil => exact h
  | cons b bs ih =>
    simp only [List.length_cons] at ha
    exact ih (Memory.wf_write h (by omega)) (by omega)

/-- A read after a write: the byte written at that offset, what was there before everywhere else. -/
theorem Memory.read_write (m : Memory) (a : Nat) (b : Byte) (x : Nat) :
    (m.write a b).read? x = if x = a then some b else m.read? x := by
  induction m with
  | nil => simp [Memory.write, Memory.read?, eq_comm]
  | cons e rest ih =>
    obtain ⟨k, c⟩ := e
    simp only [Memory.write]
    split
    · by_cases hx : a = x
      · simp [Memory.read?, hx]
      · simp [Memory.read?, hx, Ne.symm hx]
    · split
      · subst_vars
        by_cases hx : k = x
        · simp [Memory.read?, hx]
        · simp [Memory.read?, hx, Ne.symm hx]
      · simp only [Memory.read?, ih]
        by_cases hk : k = x <;> by_cases hx : x = a <;> simp_all

/-- A read after a load at `a`: the byte loaded inside the loaded range, what was there before everywhere else. -/
theorem Memory.read_load (m : Memory) (a : Nat) (bs : List Byte) (x : Nat) :
    (m.load a bs).read? x = if a ≤ x ∧ x < a + bs.length then bs[x - a]? else m.read? x := by
  induction bs generalizing m a with
  | nil => simp only [Memory.load, List.length_nil]; rw [if_neg (by omega)]
  | cons b bs ih =>
    simp only [Memory.load, List.length_cons]
    rw [ih, Memory.read_write]
    by_cases h1 : x = a
    · subst h1
      rw [if_neg (by omega), if_pos rfl, if_pos (by omega)]
      simp
    · by_cases h2 : a + 1 ≤ x ∧ x < a + 1 + bs.length
      · rw [if_pos h2, if_pos (by omega), show x - a = (x - (a + 1)) + 1 by omega, List.getElem?_cons_succ]
      · rw [if_neg h2, if_neg h1, if_neg (by omega)]

/-- The buffer of the reset state is in canonical form. -/
theorem reset_buf_wf : State.reset.buf.wf := rfl

/-- Everything a load of the buffer can do: it is refused, or it changes the buffer alone and keeps its form. -/
theorem loadBuffer_cases {bytes : List Byte} {s t : State} (h : loadBuffer bytes s = .next t) :
    isBusy s = false ∧ bytes.length ≤ Config.lenMax ∧ t = s.setBuf (s.buf.load 0 bytes) := by
  unfold loadBuffer at h
  split at h
  · cases h
  · split at h
    · cases h
    · cases h
      exact ⟨by simp_all, by omega, rfl⟩

end Sys2Proof.Machine
end

