-- ==== Sys2Proof/Laws/Operands.lean ====
section
/-! SUPPORT. The bit fields of the header bytes as slices counted from the least-significant end (R81), the two functions
in the spec's formulas (R120, R121), and the two two-byte tests in their closed forms (R89, R90). -/

namespace Sys2Proof.Machine

theorem hb1Ver_eq (b : Byte) : hb1Ver b = b.extractLsb' 3 1 := by revert b; decide

theorem hb1Layer_eq (b : Byte) : hb1Layer b = b.extractLsb' 1 2 := by revert b; decide

theorem hb1Prot_eq (b : Byte) : hb1Prot b = b.extractLsb' 0 1 := by revert b; decide

theorem hb2Profile_eq (b : Byte) : hb2Profile b = b.extractLsb' 0 2 := by revert b; decide

theorem hb2Sfi_eq (b : Byte) : hb2Sfi b = b.extractLsb' 2 4 := by revert b; decide

theorem hb2ChanHigh_eq (b : Byte) : hb2ChanHigh b = b.extractLsb' 7 1 := by revert b; decide

theorem hb3ChanLow_eq (b : Byte) : hb3ChanLow b = b.extractLsb' 0 2 := by revert b; decide

theorem chanValue_eq (h : BitVec 1) (cc : BitVec 2) : chanValue h cc = h ++ cc := by revert h cc; decide

/-- R120 in arithmetic on naturals. -/
theorem readBit_toNat (b : Byte) (k : Nat) : (readBit b k).toNat = b.toNat / 2 ^ (7 - k) % 2 := by
  simp [readBit, Nat.shiftRight_eq_div_pow, Nat.and_one_is_mod]

/-- R121 in arithmetic on naturals. -/
theorem readBits_toNat (b : Byte) (o c : Nat) : (readBits b o c).toNat = b.toNat / 2 ^ o % 2 ^ c := by
  have h : b.toNat / 2 ^ o % 2 ^ c < 256 :=
    Nat.lt_of_le_of_lt (Nat.le_trans (Nat.mod_le _ _) (Nat.div_le_self _ _)) b.isLt
  simp [readBits, Nat.mod_eq_of_lt h]

theorem isCandidate_iff (b0 b1 : Byte) :
    isCandidate b0 b1 = true ↔ b0 = 0xFF#8 ∧ b1.extractLsb' 4 4 = 0xF#4 := by
  have h : ∀ b : Byte, (b >>> 4 = 0xF#8) ↔ b.extractLsb' 4 4 = 0xF#4 := by decide
  simp [isCandidate, h]

/-- R161: the five conditions fix the second byte. -/
theorem isPattern_iff (b0 b1 : Byte) (p : Scanp) :
    isPattern b0 b1 p = true ↔ b0 = 0xFF#8 ∧ b1 = patternByte p := by
  have h : ∀ (v c : BitVec 1) (b : Byte), ((b >>> 4 = 0xF#8 ∧ (readBit b 4).setWidth 1 = v) ∧
      (readBit b 5 = 0 ∧ readBit b 6 = 0)) ∧ (readBit b 7).setWidth 1 = 1 - c ↔ b = patternByte ⟨v, c⟩ := by decide
  have := h p.ver p.crc b1
  simp only [isPattern, Bool.and_eq_true, decide_eq_true_eq, and_assoc] at this ⊢
  rw [this]

end Sys2Proof.Machine
end

