-- ==== Sys2Proof/Laws/Ops.lean ====
section
/-! SUPPORT. One lemma per shared operation that says everything it can do, and the frames of the operations: what each
leaves alone. -/

namespace Sys2Proof.Machine

/-! Reading the buffer. -/

theorem withByte_of_lt {a : Nat} {s : State} (h : a < s.len.toNat) (k : Byte → Host.Outcome State Fault Refusal) :
    withByte a s k = k (s.bufByte a) := if_pos h

/-- A read that goes on is below LEN and gives the byte there. -/
theorem withByte_next {a : Nat} {s t : State} {k : Byte → Host.Outcome State Fault Refusal}
    (h : withByte a s k = .next t) : a < s.len.toNat ∧ k (s.bufByte a) = .next t := by
  unfold withByte at h
  split at h
  · exact ⟨‹_›, h⟩
  · cases h

/-! Commands. -/

/-- A command ignored while BUSY, or accepted with a legal length and its effect taken in one step. -/
theorem acceptCommand_cases {f : State → State} {s t : State} (h : acceptCommand f s = .next t) :
    (isBusy s = true ∧ t = s) ∨ (isBusy s = false ∧ s.len ≠ 4294967295#32 ∧ t = f s) := by
  unfold acceptCommand at h
  split at h
  · cases h; exact .inl ⟨‹_›, rfl⟩
  · split at h
    · cases h
    · cases h; exact .inr ⟨by simp_all, ‹_›, rfl⟩

theorem acceptCommand_busy {f : State → State} {s : State} (h : isBusy s = true) : acceptCommand f s = .next s :=
  if_pos h

theorem acceptCommand_ready {f : State → State} {s : State} (h : isBusy s = false) (hl : s.len ≠ 4294967295#32) :
    acceptCommand f s = .next (f s) := by simp [acceptCommand, h, hl]

/-! Frames of raising an error: only HDR, SF_HZ, FST and ERR. -/

section raise
variable (c : Cause) (s : State)
@[simp] theorem raise_len : (raise c s).len = s.len := by cases c <;> rfl
@[simp] theorem raise_srcOk : (raise c s).srcOk = s.srcOk := by cases c <;> rfl
@[simp] theorem raise_scanp : (raise c s).scanp = s.scanp := by cases c <;> rfl
@[simp] theorem raise_phase : (raise c s).phase = s.phase := by cases c <;> rfl
@[simp] theorem raise_mode : (raise c s).mode = s.mode := by cases c <;> rfl
@[simp] theorem raise_cur : (raise c s).cur = s.cur := by cases c <;> rfl
@[simp] theorem raise_syncPos : (raise c s).syncPos = s.syncPos := by cases c <;> rfl
@[simp] theorem raise_si : (raise c s).si = s.si := by cases c <;> rfl
@[simp] theorem raise_count : (raise c s).count = s.count := by cases c <;> rfl
@[simp] theorem raise_raw : (raise c s).raw = s.raw := by cases c <;> rfl
@[simp] theorem raise_buf : (raise c s).buf = s.buf := by cases c <;> rfl
@[simp] theorem raise_host : (raise c s).host = s.host := by cases c <;> rfl
@[simp] theorem raise_dataOut : (raise c s).dataOut = s.dataOut := by cases c <;> rfl
/-- Raising an error sets its own flag and no other (R190, R201). -/
theorem raise_err : (raise c s).err = s.err.set c := by cases c <;> rfl
end raise

/-- BUF[a] depends on the buffer alone. -/
theorem bufByte_congr {s t : State} (h : t.buf = s.buf) (a : Nat) : t.bufByte a = s.bufByte a := by
  simp [State.bufByte, h]

/-- Where candidates lie depends on the buffer and LEN alone. -/
theorem candidateAt_congr {s t : State} (hb : t.buf = s.buf) (hl : t.len = s.len) : candidateAt t = candidateAt s := by
  funext j; simp [candidateAt, hl, bufByte_congr hb]

/-- Where patterns lie depends on the buffer and LEN alone. -/
theorem patternAt_congr {s t : State} (hb : t.buf = s.buf) (hl : t.len = s.len) : patternAt t = patternAt s := by
  funext p i; simp [patternAt, hl, bufByte_congr hb]

theorem matchesBelow_congr {s t : State} (hb : t.buf = s.buf) (hl : t.len = s.len) :
    matchesBelow t = matchesBelow s := by
  funext p n; simp [matchesBelow, patternAt_congr hb hl]

/-! What the buffer holds, and where its candidates and patterns lie, under the updates of everything else. -/

section updates
variable (s : State)
@[simp] theorem bufByte_setLen (v) : (s.setLen v).bufByte = s.bufByte := rfl
@[simp] theorem bufByte_setSrcOk (v) : (s.setSrcOk v).bufByte = s.bufByte := rfl
@[simp] theorem candidateAt_setSrcOk (v) : candidateAt (s.setSrcOk v) = candidateAt s := rfl
@[simp] theorem matchesBelow_setSrcOk (v) : matchesBelow (s.setSrcOk v) = matchesBelow s := rfl
@[simp] theorem bufByte_setScanp (v) : (s.setScanp v).bufByte = s.bufByte := rfl
@[simp] theorem candidateAt_setScanp (v) : candidateAt (s.setScanp v) = candidateAt s := rfl
@[simp] theorem matchesBelow_setScanp (v) : matchesBelow (s.setScanp v) = matchesBelow s := rfl
@[simp] theorem bufByte_setPhase (v) : (s.setPhase v).bufByte = s.bufByte := rfl
@[simp] theorem candidateAt_setPhase (v) : candidateAt (s.setPhase v) = candidateAt s := rfl
@[simp] theorem matchesBelow_setPhase (v) : matchesBelow (s.setPhase v) = matchesBelow s := rfl
@[simp] theorem bufByte_setMode (v) : (s.setMode v).bufByte = s.bufByte := rfl
@[simp] theorem candidateAt_setMode (v) : candidateAt (s.setMode v) = candidateAt s := rfl
@[simp] theorem matchesBelow_setMode (v) : matchesBelow (s.setMode v) = matchesBelow s := rfl
@[simp] theorem bufByte_setCur (v) : (s.setCur v).bufByte = s.bufByte := rfl
@[simp] theorem candidateAt_setCur (v) : candidateAt (s.setCur v) = candidateAt s := rfl
@[simp] theorem matchesBelow_setCur (v) : matchesBelow (s.setCur v) = matchesBelow s := rfl
@[simp] theorem bufByte_setSyncPos (v) : (s.setSyncPos v).bufByte = s.bufByte := rfl
@[simp] theorem candidateAt_setSyncPos (v) : candidateAt (s.setSyncPos v) = candidateAt s := rfl
@[simp] theorem matchesBelow_setSyncPos (v) : matchesBelow (s.setSyncPos v) = matchesBelow s := rfl
@[simp] theorem bufByte_setSi (v) : (s.setSi v).bufByte = s.bufByte := rfl
@[simp] theorem candidateAt_setSi (v) : candidateAt (s.setSi v) = candidateAt s := rfl
@[simp] theorem matchesBelow_setSi (v) : matchesBelow (s.setSi v) = matchesBelow s := rfl
@[simp] theorem bufByte_setCount (v) : (s.setCount v).bufByte = s.bufByte := rfl
@[simp] theorem candidateAt_setCount (v) : candidateAt (s.setCount v) = candidateAt s := rfl
@[simp] theorem matchesBelow_setCount (v) : matchesBelow (s.setCount v) = matchesBelow s := rfl
@[simp] theorem bufByte_setHdr (v) : (s.setHdr v).bufByte = s.bufByte := rfl
@[simp] theorem candidateAt_setHdr (v) : candidateAt (s.setHdr v) = candidateAt s := rfl
@[simp] theorem matchesBelow_setHdr (v) : matchesBelow (s.setHdr v) = matchesBelow s := rfl
@[simp] theorem bufByte_setSfHz (v) : (s.setSfHz v).bufByte = s.bufByte := rfl
@[simp] theorem candidateAt_setSfHz (v) : candidateAt (s.setSfHz v) = candidateAt s := rfl
@[simp] theorem matchesBelow_setSfHz (v) : matchesBelow (s.setSfHz v) = matchesBelow s := rfl
@[simp] theorem bufByte_setRaw (v) : (s.setRaw v).bufByte = s.bufByte := rfl
@[simp] theorem candidateAt_setRaw (v) : candidateAt (s.setRaw v) = candidateAt s := rfl
@[simp] theorem matchesBelow_setRaw (v) : matchesBelow (s.setRaw v) = matchesBelow s := rfl
@[simp] theorem bufByte_setFst (v) : (s.setFst v).bufByte = s.bufByte := rfl
@[simp] theorem candidateAt_setFst (v) : candidateAt (s.setFst v) = candidateAt s := rfl
@[simp] theorem matchesBelow_setFst (v) : matchesBelow (s.setFst v) = matchesBelow s := rfl
@[simp] theorem bufByte_setErr (v) : (s.setErr v).bufByte = s.bufByte := rfl
@[simp] theorem candidateAt_setErr (v) : candidateAt (s.setErr v) = candidateAt s := rfl
@[simp] theorem matchesBelow_setErr (v) : matchesBelow (s.setErr v) = matchesBelow s := rfl
@[simp] theorem bufByte_setHost (v) : (s.setHost v).bufByte = s.bufByte := rfl
@[simp] theorem candidateAt_setHost (v) : candidateAt (s.setHost v) = candidateAt s := rfl
@[simp] theorem matchesBelow_setHost (v) : matchesBelow (s.setHost v) = matchesBelow s := rfl
@[simp] theorem bufByte_setDataOut (v) : (s.setDataOut v).bufByte = s.bufByte := rfl
@[simp] theorem candidateAt_setDataOut (v) : candidateAt (s.setDataOut v) = candidateAt s := rfl
@[simp] theorem matchesBelow_setDataOut (v) : matchesBelow (s.setDataOut v) = matchesBelow s := rfl
@[simp] theorem bufByte_raise (c) : (raise c s).bufByte = s.bufByte := by cases c <;> rfl
@[simp] theorem candidateAt_raise (c) : candidateAt (raise c s) = candidateAt s := by cases c <;> rfl
@[simp] theorem matchesBelow_raise (c) : matchesBelow (raise c s) = matchesBelow s := by cases c <;> rfl
end updates

/-- One more position counted (R162). -/
theorem matchesBelow_succ (s : State) (p : Scanp) (n : Nat) :
    matchesBelow s p (n + 1) = matchesBelow s p n + (if patternAt s p n then 1 else 0) := by
  simp [matchesBelow, List.range_succ, List.countP_append, List.countP_cons]

/-- Everything `fetch` can answer: a PHASE code on the sequencer's turn, a command word, or a presented number; never a
change of anything but the host's list. -/
theorem fetch_cases {s s' : State} {t : Table} {w : Nat} (h : fetch s = some (t, w, s')) :
    (t = .phase ∧ w = s.phase.toNat ∧ s' = s) ∨
    (∃ rest, s.host = .turn :: rest ∧ t = .phase ∧ w = s.phase.toNat ∧ s' = s.setHost rest) ∨
    (∃ v rest, s.host = .wr 0 v :: rest ∧ t = .command ∧ w = v.toNat ∧ s' = s.setHost rest) ∨
    (∃ rest, s.host = .present t w :: rest ∧ s' = s.setHost rest) := by
  unfold fetch at h
  split at h
  · cases h; exact .inl ⟨rfl, rfl, rfl⟩
  · cases h; exact .inr (.inl ⟨_, ‹_›, rfl, rfl, rfl⟩)
  · split at h
    · cases h
    · cases h; exact .inl ⟨rfl, rfl, rfl⟩
  · split at h
    · subst_vars; cases h; exact .inr (.inr (.inl ⟨_, _, ‹_›, rfl, rfl, rfl⟩))
    · cases h
  · cases h; exact .inr (.inr (.inr ⟨_, ‹_›, rfl⟩))
  all_goals cases h

end Sys2Proof.Machine
end

