-- ==== Sys2Proof/Laws/Invariant.lean ====
section
/-! SUPPORT. What the invariant of Safety.lean does not depend on: the host's side, reset, and, while no run is in progress,
the parameters and the buffer. -/

namespace Sys2Proof.Machine

/-- The invariant asks of the host's list only that its moves are the spec's. -/
theorem inv_setHost {s : State} (h : RunInv s) {rest} (hr : rest.all isSpecMove = true) : RunInv (s.setHost rest) := by
  obtain ⟨⟨a1, a2, a3, a4, a5⟩, ⟨b1, b2, b3, b4, b5, b6, b7, b8, b9, b10, b11, b12, b13⟩, ⟨c1, c2, c3, c4, c5, c6, c7⟩⟩ := h
  exact ⟨⟨a1, hr, a3, a4, a5⟩, ⟨b1, b2, b3, b4, b5, b6, b7, b8, b9, b10, b11, b12, b13⟩, ⟨c1, c2, c3, c4, c5, c6, c7⟩⟩

/-- The invariant says nothing of `dataOut`. -/
theorem inv_setDataOut {s : State} (h : RunInv s) {v} : RunInv (s.setDataOut v) := by
  obtain ⟨⟨a1, a2, a3, a4, a5⟩, ⟨b1, b2, b3, b4, b5, b6, b7, b8, b9, b10, b11, b12, b13⟩, ⟨c1, c2, c3, c4, c5, c6, c7⟩⟩ := h
  exact ⟨⟨a1, a2, a3, a4, a5⟩, ⟨b1, b2, b3, b4, b5, b6, b7, b8, b9, b10, b11, b12, b13⟩, ⟨c1, c2, c3, c4, c5, c6, c7⟩⟩

/-- Reset gives the invariant. -/
theorem inv_reset {s : State} (h : RunInv s) : RunInv (resetRegs s) := by
  have := h.param.host_moves
  constructor <;> constructor <;> simp [resetRegs, State.reset, this, isBusy, decoding, cleared, Phase.scan, Phase.sync]

/-- R37: a legal phase that is not BUSY is IDLE or DONE. -/
theorem notBusy_phase {s : State} (hb : isBusy s = false) (h : s.phase.toNat ≤ 10) : s.phase = Phase.idle ∨ s.phase = Phase.done := by
  simp [isBusy] at hb
  have : s.phase.toNat = 0 ∨ s.phase.toNat = 10 := by omega
  rcases this with h | h
  · left; apply BitVec.eq_of_toNat_eq; simpa using h
  · right; apply BitVec.eq_of_toNat_eq; simpa using h

/-- While no run is in progress the invariant does not depend on LEN, CFG, SCANP, the buffer or `dataOut`. -/
theorem inv_quiet {s t : State} (h : RunInv s) (hb : isBusy s = false)
  (hp : t.phase = s.phase) (hm : t.mode = s.mode) (hh : t.host = s.host) (hc : t.cur = s.cur) (hsp : t.syncPos = s.syncPos)
  (hsi : t.si = s.si) (hct : t.count = s.count) (e1 : t.hdr = s.hdr) (e2 : t.sfHz = s.sfHz) (e3 : t.raw = s.raw) (e4 : t.fst = s.fst) (e5 : t.err = s.err) : RunInv t := by
  have hq := notBusy_phase hb h.param.phase_legal
  obtain ⟨⟨a1, a2, a3, a4, a5⟩, ⟨b1, b2, b3, b4, b5, b6, b7, b8, b9, b10, b11, b12, b13⟩, ⟨c1, c2, c3, c4, c5, c6, c7⟩⟩ := h
  have hb' : isBusy t = false := by simpa [isBusy, hp] using hb
  refine ⟨⟨by simpa [hp] using a1, by simpa [hh] using a2, by simp [hb'], ?_, ?_⟩, ?_, ?_⟩
  · rcases hq with h | h <;> simp [decoding, hp, h]
  · rcases hq with h | h <;> simp [hp, h]
  · constructor <;> simp only [e1, e2, e3, e4, e5] <;> assumption
  · constructor
    · simpa [cleared, hp, hm, hc, hsp, hsi, hct, e1, e2, e3, e4, e5] using c1
    · rcases hq with h | h <;> simp [hp, h]
    · rcases hq with h | h <;> simp [inHeader, hp, h]
    · rcases hq with h | h <;> simp [inHeader, hp, h]
    · rcases hq with h | h <;> simp [hp, h]
    · rcases hq with h | h <;> simp [hp, h]
    · simpa [decoding, hp, e4] using c7

end Sys2Proof.Machine
end

