-- ==== Sys2Proof/Laws/PerInstr.lean ====
section
/-! SUPPORT. A law of every instruction as syntax, one lemma per constructor: the number a well-formed row encodes to fits the
bytes its table gives a row (R80). -/

namespace Sys2Proof.Laws.EncodedWidth

/-- The encoding of a well-formed row fits the bytes of its table's rows. -/
def Statement (i : Instr) : Prop := i.wf = true → (encode i).2 < 2 ^ (8 * (encode i).1.bytes)

theorem readBit (byte : Byte) (offset : Nat) :
    Statement (.readBit byte offset) := by
  intro h; have := byte.isLt; simp only [Instr.wf, decide_eq_true_eq] at h; simp only [encode, Table.bytes]; omega

theorem readBits (byte : Byte) (offset count : Nat) :
    Statement (.readBits byte offset count) := by
  intro h; have := byte.isLt; simp only [Instr.wf, decide_eq_true_eq] at h; simp only [encode, Table.bytes]; omega

theorem idle : Statement .idle := fun _ => by decide

theorem sync : Statement .sync := fun _ => by decide

theorem ver : Statement .ver := fun _ => by decide

theorem layer : Statement .layer := fun _ => by decide

theorem prot : Statement .prot := fun _ => by decide

theorem profile : Statement .profile := fun _ => by decide

theorem sfi : Statement .sfi := fun _ => by decide

theorem priv : Statement .priv := fun _ => by decide

theorem chan : Statement .chan := fun _ => by decide

theorem scan : Statement .scan := fun _ => by decide

theorem done : Statement .done := fun _ => by decide

theorem phaseReserved11 : Statement .phaseReserved11 := fun _ => by decide

theorem phaseReserved12 : Statement .phaseReserved12 := fun _ => by decide

theorem phaseReserved13 : Statement .phaseReserved13 := fun _ => by decide

theorem phaseReserved14 : Statement .phaseReserved14 := fun _ => by decide

theorem phaseReserved15 : Statement .phaseReserved15 := fun _ => by decide

theorem cmdNop : Statement .cmdNop := fun _ => by decide

theorem cmdDecode : Statement .cmdDecode := fun _ => by decide

theorem cmdScan : Statement .cmdScan := fun _ => by decide

theorem cmdRun : Statement .cmdRun := fun _ => by decide

theorem cmdClear : Statement .cmdClear := fun _ => by decide

theorem cmdReserved5 : Statement .cmdReserved5 := fun _ => by decide

theorem cmdReserved6 : Statement .cmdReserved6 := fun _ => by decide

theorem cmdReserved7 : Statement .cmdReserved7 := fun _ => by decide

theorem adtsHeader (v : BitVec 1) (l : BitVec 2) (p h x : BitVec 1) (ssss : BitVec 4) (pp : BitVec 2) (u6 : BitVec 6) (cc : BitVec 2) (u24 : BitVec 24) :
    Statement (.adtsHeader v l p h x ssss pp u6 cc u24) := by
  intro _
  have := v.isLt; have := l.isLt; have := p.isLt; have := h.isLt; have := x.isLt; have := ssss.isLt
  have := pp.isLt; have := u6.isLt; have := cc.isLt; have := u24.isLt
  simp only [encode, Table.bytes]; omega

theorem syncCandidate (low : BitVec 4) :
    Statement (.syncCandidate low) := by
  intro _; have := low.isLt; simp only [encode, Table.bytes]; omega

theorem scanPattern00 : Statement .scanPattern00 := fun _ => by decide

theorem scanPattern01 : Statement .scanPattern01 := fun _ => by decide

theorem scanPattern10 : Statement .scanPattern10 := fun _ => by decide

theorem scanPattern11 : Statement .scanPattern11 := fun _ => by decide

theorem ver0 : Statement .ver0 := fun _ => by decide

theorem ver1 : Statement .ver1 := fun _ => by decide

theorem prot0 : Statement .prot0 := fun _ => by decide

theorem prot1 : Statement .prot1 := fun _ => by decide

theorem layer0 : Statement .layer0 := fun _ => by decide

theorem layer1 : Statement .layer1 := fun _ => by decide

theorem layer2 : Statement .layer2 := fun _ => by decide

theorem layer3 : Statement .layer3 := fun _ => by decide

theorem profile0 : Statement .profile0 := fun _ => by decide

theorem profile1 : Statement .profile1 := fun _ => by decide

theorem profile2 : Statement .profile2 := fun _ => by decide

theorem profile3 : Statement .profile3 := fun _ => by decide

theorem profile4 : Statement .profile4 := fun _ => by decide

theorem profile5 : Statement .profile5 := fun _ => by decide

theorem profile6 : Statement .profile6 := fun _ => by decide

theorem profile7 : Statement .profile7 := fun _ => by decide

theorem sfi0 : Statement .sfi0 := fun _ => by decide

theorem sfi1 : Statement .sfi1 := fun _ => by decide

theorem sfi2 : Statement .sfi2 := fun _ => by decide

theorem sfi3 : Statement .sfi3 := fun _ => by decide

theorem sfi4 : Statement .sfi4 := fun _ => by decide

theorem sfi5 : Statement .sfi5 := fun _ => by decide

theorem sfi6 : Statement .sfi6 := fun _ => by decide

theorem sfi7 : Statement .sfi7 := fun _ => by decide

theorem sfi8 : Statement .sfi8 := fun _ => by decide

theorem sfi9 : Statement .sfi9 := fun _ => by decide

theorem sfi10 : Statement .sfi10 := fun _ => by decide

theorem sfi11 : Statement .sfi11 := fun _ => by decide

theorem sfi12 : Statement .sfi12 := fun _ => by decide

theorem sfi13 : Statement .sfi13 := fun _ => by decide

theorem sfi14 : Statement .sfi14 := fun _ => by decide

theorem sfi15 : Statement .sfi15 := fun _ => by decide

theorem chan0 : Statement .chan0 := fun _ => by decide

theorem chan1 : Statement .chan1 := fun _ => by decide

theorem chan2 : Statement .chan2 := fun _ => by decide

theorem chan3 : Statement .chan3 := fun _ => by decide

theorem chan4 : Statement .chan4 := fun _ => by decide

theorem chan5 : Statement .chan5 := fun _ => by decide

theorem chan6 : Statement .chan6 := fun _ => by decide

theorem chan7 : Statement .chan7 := fun _ => by decide

theorem chan8 : Statement .chan8 := fun _ => by decide

theorem chan9 : Statement .chan9 := fun _ => by decide

theorem chan10 : Statement .chan10 := fun _ => by decide

theorem chan11 : Statement .chan11 := fun _ => by decide

theorem chan12 : Statement .chan12 := fun _ => by decide

theorem chan13 : Statement .chan13 := fun _ => by decide

theorem chan14 : Statement .chan14 := fun _ => by decide

theorem chan15 : Statement .chan15 := fun _ => by decide

end Sys2Proof.Laws.EncodedWidth
end

