-- ==== Sys2Proof/Tests/Slice0.lean ====
section
/-! SUPPORT. The model's own tests: ill-formed terms refused, words written out from the spec's encodings, one-step tests with
the values of spec/95_test_vectors.md, and for every obligation with hypotheses a witness that meets them. -/

open Sys2Proof Sys2Proof.Machine

namespace Sys2Proof.Tests

/-! Helpers. -/

/-- Register `idx` after a step that goes on. -/
def regAfter (o : Host.Outcome State Fault Refusal) (idx : Nat) : Option Nat :=
  match o with
  | .next t => some (regWord t idx).toNat
  | .fault _ => none
  | .refused _ => none

/-- The value given to the host by a step that goes on. -/
def outAfter (o : Host.Outcome State Fault Refusal) : Option Nat :=
  match o with
  | .next t => some t.dataOut.toNat
  | .fault _ => none
  | .refused _ => none

/-- The buffer `bytes` loaded, LEN and SRC_OK set, and CUR, PHASE and MODE as given. -/
def st (bytes : List Byte) (cur phase mode : Nat) : State :=
  { State.reset with
    buf := Memory.load [] 0 bytes, len := BitVec.ofNat 32 bytes.length, srcOk := 1, cur := BitVec.ofNat 32 cur,
    phase := BitVec.ofNat 4 phase, mode := BitVec.ofNat 2 mode }

/-- The buffer of vector E1. -/
def e1 : List Byte := [0xFF, 0xF1, 0x0E, 0x02]

/-- E1 with the scanner at position `si`, SCANP as given. -/
def scanAt (bytes : List Byte) (si : Nat) (v c : BitVec 1) : State :=
  { st bytes 0 9 2 with si := BitVec.ofNat 32 si, scanp := ⟨v, c⟩ }

/-- `s` with these moves of the host pending. -/
def withHost (s : State) (moves : List HostAct) : State := { s with host := moves }

/-! Well-formedness: one ill-formed term for each check, and the edge that passes. -/

theorem test_wf_read_bit : (Instr.readBit 0xFF 8).wf = false ∧ (Instr.readBit 0xFF 7).wf = true := by decide

theorem test_wf_read_bits : (Instr.readBits 0xFF 5 4).wf = false ∧ (Instr.readBits 0xFF 9 0).wf = false ∧
    (Instr.readBits 0xFF 8 0).wf = true ∧ (Instr.readBits 0xFF 5 3).wf = true := by decide

/-! Decoding, from the spec's tables. -/

/-- R24: the sixteen phase codes in order. -/
theorem test_decode_phases : (List.range 16).map (decode .phase) =
    [Instr.idle, .sync, .ver, .layer, .prot, .profile, .sfi, .priv, .chan, .scan, .done, .phaseReserved11,
      .phaseReserved12, .phaseReserved13, .phaseReserved14, .phaseReserved15].map .ok := by decide

/-- R170: the eight command codes in order. -/
theorem test_decode_commands : (List.range 8).map (decode .command) =
    [Instr.cmdNop, .cmdDecode, .cmdScan, .cmdRun, .cmdClear, .cmdReserved5, .cmdReserved6, .cmdReserved7].map .ok := by
  decide

/-- R38, X9: bits 31:3 of a command word are ignored. -/
theorem test_decode_command_high_bits : decodeBytes .command [0xFF, 0xFF, 0xFF, 0xFC] = .ok .cmdClear := by decide

/-- R88: version, protection and layer, raw value by raw value. -/
theorem test_decode_bits : (List.range 2).map (decode .verField) = [Instr.ver0, .ver1].map .ok ∧
    (List.range 2).map (decode .protField) = [Instr.prot0, .prot1].map .ok ∧
    (List.range 4).map (decode .layerField) = [Instr.layer0, .layer1, .layer2, .layer3].map .ok := by decide

/-- R85. -/
theorem test_decode_profile_rows : (List.range 8).map (decode .profileField) =
    [Instr.profile0, .profile1, .profile2, .profile3, .profile4, .profile5, .profile6, .profile7].map .ok := by decide

/-- R86. -/
theorem test_decode_sfi_rows : (List.range 16).map (decode .sfiField) =
    [Instr.sfi0, .sfi1, .sfi2, .sfi3, .sfi4, .sfi5, .sfi6, .sfi7, .sfi8, .sfi9, .sfi10, .sfi11, .sfi12, .sfi13, .sfi14,
      .sfi15].map .ok := by decide

/-- R87. -/
theorem test_decode_chan_rows : (List.range 16).map (decode .chanField) =
    [Instr.chan0, .chan1, .chan2, .chan3, .chan4, .chan5, .chan6, .chan7, .chan8, .chan9, .chan10, .chan11, .chan12,
      .chan13, .chan14, .chan15].map .ok := by decide

/-- R81 on the bytes of vector P2 (`FF F8 D1 A5 ...`): VER 1, layer 0, PA 0; h 1, x 1, index 4, profile 1; hb3[7:2] = 101001,
cc 1. -/
theorem test_decode_header : decodeBytes .header [0xFF, 0xF8, 0xD1, 0xA5, 0, 0, 0] =
    .ok (.adtsHeader 0b1 0b00 0b0 0b1 0b1 0b0100 0b01 0b101001 0b01 0) := by decide

/-- R89, R90: the pairs, lower-offset byte high. -/
theorem test_decode_pairs : decodeBytes .candidate [0xFF, 0xFB] = .ok (.syncCandidate 0b1011) ∧
    decodeBytes .pattern [0xFF, 0xF1] = .ok .scanPattern00 ∧ decodeBytes .pattern [0xFF, 0xF0] = .ok .scanPattern01 ∧
    decodeBytes .pattern [0xFF, 0xF9] = .ok .scanPattern10 ∧ decodeBytes .pattern [0xFF, 0xF8] = .ok .scanPattern11 := by
  decide

/-- The model's own layout of the two functions' operands (notes/assumptions/7.md). -/
theorem test_decode_functions : decode .readBit 0x3A5 = .ok (.readBit 0xA5 3) ∧
    decode .readBits 0x0402A5 = .ok (.readBits 0xA5 2 4) := by decide

/-- What is no row is rejected by name: V5 S2 (`FF 0F`), S3 (`FF EF`), a lone pair that is no pattern (`FF FF`), and calls
outside the contracts. -/
theorem test_decode_rejects : decodeBytes .candidate [0xFF, 0x0F] = .error (.noRow .candidate 0xFF0F) ∧
    decodeBytes .candidate [0xFF, 0xEF] = .error (.noRow .candidate 0xFFEF) ∧
    decodeBytes .pattern [0xFF, 0xFF] = .error (.noRow .pattern 0xFFFF) ∧
    decodeBytes .header [0xFF, 0xE1, 0, 0, 0, 0, 0] = .error (.noRow .header 0xFFE10000000000) ∧
    decode .profileField 8 = .error (.noRow .profileField 8) ∧ decode .readBit 0x8A5 = .error (.outOfContract .readBit 0x8A5) ∧
    decodeBytes .header [0xFF] = .error (.wrongLength .header 1) := by decide

/-! The two functions: V1, V2. -/

theorem test_read_bit : outAfter (exec (.readBit 0xF8 4) State.reset) = some 1 ∧
    outAfter (exec (.readBit 0xF1 4) State.reset) = some 0 ∧ outAfter (exec (.readBit 0x80 0) State.reset) = some 1 := by
  decide

theorem test_read_bits : outAfter (exec (.readBits 0xA5 2 4) State.reset) = some 9 ∧
    outAfter (exec (.readBits 0xA5 0 8) State.reset) = some 0xA5 ∧
    outAfter (exec (.readBits 0xA5 8 0) State.reset) = some 0 ∧ outAfter (exec (.readBits 0xD1 7 1) State.reset) = some 1 := by
  decide

/-! The decoder's steps, on E1 (P1's trace) and on the vectors named. -/

/-- P1 step 1: SYNC_POS 0, CUR 1, FST.SYNC OK, next VER. -/
theorem test_sync_found : regAfter (exec .sync (st e1 0 1 1)) 5 = some 1 ∧
    regAfter (exec .sync (st e1 0 1 1)) 10 = some 1 ∧ regAfter (exec .sync (st e1 0 1 1)) 1 = some 0x52 := by decide

/-- S1: one byte; FST 0x3FFE, ERR 0x2, STATUS 0x29A. -/
theorem test_sync_fails : regAfter (exec .sync (st [0xFF] 0 1 1)) 10 = some 0x3FFE ∧
    regAfter (exec .sync (st [0xFF] 0 1 1)) 11 = some 2 ∧ regAfter (exec .sync (st [0xFF] 0 1 1)) 1 = some 0x29A := by decide

/-- V4, `hb1` = F8: RAW.VER and HDR.VER are 1. -/
theorem test_ver : regAfter (exec .ver (st [0xFF, 0xF8] 1 2 1)) 7 = some 1 ∧
    regAfter (exec .ver (st [0xFF, 0xF8] 1 2 1)) 9 = some 1 := by decide

/-- V4, `hb1` = F2 and F4: RAW.LAYER is 1 and 2, ERR is 0x4, the phase is PROT. -/
theorem test_layer : regAfter (exec .layer (st [0xFF, 0xF2] 1 3 1)) 9 = some 2 ∧
    regAfter (exec .layer (st [0xFF, 0xF4] 1 3 1)) 9 = some 4 ∧
    regAfter (exec .layer (st [0xFF, 0xF4] 1 3 1)) 11 = some 4 ∧
    regAfter (exec .layer (st [0xFF, 0xF4] 1 3 1)) 1 = some 0x254 := by decide

/-- V4, `hb1` = F0: PA 0 is CRC 1; `hb1` = F1: PA 1 is CRC 0. -/
theorem test_prot : regAfter (exec .prot (st [0xFF, 0xF0] 1 4 1)) 7 = some 2 ∧
    regAfter (exec .prot (st [0xFF, 0xF1] 1 4 1)) 7 = some 0 ∧
    regAfter (exec .prot (st [0xFF, 0xF1] 1 4 1)) 9 = some 8 := by decide

/-- E1: profile 2, CUR 2. T1: no `hb2`, CUR still 2, PROF UNREAD, Truncated. -/
theorem test_profile : regAfter (exec .profile (st e1 1 5 1)) 7 = some 8 ∧
    regAfter (exec .profile (st e1 1 5 1)) 5 = some 2 ∧
    regAfter (exec .profile (st [0xFF, 0xF1] 1 5 1)) 10 = some 0x300 ∧
    regAfter (exec .profile (st [0xFF, 0xF1] 1 5 1)) 11 = some 0x100 ∧
    regAfter (exec .profile (st [0xFF, 0xF1] 1 5 1)) 5 = some 2 := by decide

/-- E3, P = 0: INVALID, ERR 0x8. -/
theorem test_profile_zero : regAfter (exec .profile (st [0xFF, 0xF1, 0x0C, 0] 1 5 1)) 10 = some 0x200 ∧
    regAfter (exec .profile (st [0xFF, 0xF1, 0x0C, 0] 1 5 1)) 11 = some 8 := by decide

/-- E2, index 12: 7350; index 13: absent, ERR 0x10. -/
theorem test_sfi : regAfter (exec .sfi (st [0xFF, 0xF1, 0x31, 0] 2 6 1)) 8 = some 7350 ∧
    regAfter (exec .sfi (st [0xFF, 0xF1, 0x35, 0] 2 6 1)) 8 = some 0 ∧
    regAfter (exec .sfi (st [0xFF, 0xF1, 0x35, 0] 2 6 1)) 11 = some 0x10 ∧
    regAfter (exec .sfi (st [0xFF, 0xF1] 2 6 1)) 10 = some 0xC00 := by decide

/-- V14: the private bit changes nothing; nor does its absence raise anything. -/
theorem test_priv : regAfter (exec .priv (st [0xFF, 0xF1, 0x4E, 2] 2 7 1)) 9 = some 0 ∧
    regAfter (exec .priv (st [0xFF, 0xF1, 0x4E, 2] 2 7 1)) 1 = some 0x58 ∧
    regAfter (exec .priv (st [0xFF, 0xF1] 2 7 1)) 11 = some 0 := by decide

/-- E6, n = 6 (`hb2` = 8E, `hb3` = 02): RAW.CC and HDR.CHAN 6, CUR 3, DONE after DECODE. -/
theorem test_chan : regAfter (exec .chan (st [0xFF, 0xF1, 0x8E, 2] 2 8 1)) 7 = some 0xC0 ∧
    regAfter (exec .chan (st [0xFF, 0xF1, 0x8E, 2] 2 8 1)) 9 = some 0x1800 ∧
    regAfter (exec .chan (st [0xFF, 0xF1, 0x8E, 2] 2 8 1)) 5 = some 3 ∧
    regAfter (exec .chan (st [0xFF, 0xF1, 0x8E, 2] 2 8 1)) 1 = some 0x9A := by decide

/-- R139: in a RUN CHAN goes on to SCAN with SCANP loaded from HDR; T3: no `hb3`, RAW.CC 0, CC UNREAD. -/
theorem test_chan_exit : regAfter (exec .chan { st e1 2 8 3 with hdr := ⟨1, 1, 2, 0⟩ }) 4 = some 3 ∧
    regAfter (exec .chan (st e1 2 8 3)) 1 = some 0x79 ∧
    regAfter (exec .chan (st [0xFF, 0xF1, 0x8C] 2 8 1)) 9 = some 0 ∧
    regAfter (exec .chan (st [0xFF, 0xF1, 0x8C] 2 8 1)) 10 = some 0x3000 := by decide

/-! The scanner: V7. -/

/-- SC2 and SC3: `(FF, F1)` counts, `(F1, FF)` does not; SI advances in both. -/
theorem test_scan : regAfter (exec .scan (scanAt [0xFF, 0xF1] 0 0 0)) 13 = some 1 ∧
    regAfter (exec .scan (scanAt [0xF1, 0xFF] 0 0 0)) 13 = some 0 ∧
    regAfter (exec .scan (scanAt [0xF1, 0xFF] 0 0 0)) 12 = some 1 := by decide

/-- E5a: an empty buffer ends at once, FST 0x4000, STATUS 0xAA. -/
theorem test_scan_end : regAfter (exec .scan (scanAt [] 0 0 0)) 10 = some 0x4000 ∧
    regAfter (exec .scan (scanAt [] 0 0 0)) 1 = some 0xAA ∧ regAfter (exec .scan (scanAt [0xFF, 0xF1] 1 0 0)) 13 = some 0 := by
  decide

/-- V7: each pattern row counts for its own SCANP and not for the one beside it. -/
theorem test_pattern_rows : regAfter (exec .scanPattern00 (scanAt [] 0 0 0)) 13 = some 1 ∧
    regAfter (exec .scanPattern01 (scanAt [] 0 0 1)) 13 = some 1 ∧
    regAfter (exec .scanPattern10 (scanAt [] 0 1 0)) 13 = some 1 ∧
    regAfter (exec .scanPattern11 (scanAt [] 0 1 1)) 13 = some 1 ∧
    regAfter (exec .scanPattern01 (scanAt [] 0 0 0)) 13 = some 0 ∧
    regAfter (exec .scanPattern11 (scanAt [] 0 1 0)) 13 = some 0 := by decide

/-- R131: the candidate row is SYNC's acceptance. -/
theorem test_candidate_row : regAfter (exec (.syncCandidate 1) (st e1 0 1 1)) 5 = some 1 ∧
    regAfter (exec (.syncCandidate 1) (st e1 0 1 1)) 1 = some 0x52 := by decide

/-- E1 (DECODE) in one row: HDR 0x48, RAW 0x8E8, FST 0x1555, STATUS 0x9A, SF_HZ 48000, CUR 3. -/
theorem test_header_row : [7, 9, 10, 1, 8, 5].map (regAfter (exec (.adtsHeader 0 0 1 0 0 3 2 0 2 0) (st e1 0 1 1))) =
    [some 0x48, some 0x8E8, some 0x1555, some 0x9A, some 48000, some 3] := by decide

/-! Commands: V8. -/

/-- X1 and X3: EmptyInput and SourceUnavailable; P1: RUN goes to SYNC (STATUS 0x71). -/
theorem test_cmd_decode : regAfter (exec .cmdDecode (st [] 0 0 0)) 1 = some 0x39A ∧
    regAfter (exec .cmdDecode (st [] 0 0 0)) 11 = some 0x80 ∧
    regAfter (exec .cmdDecode { st [] 0 0 0 with srcOk := 0 }) 11 = some 0x40 ∧
    regAfter (exec .cmdDecode (st e1 3 10 2)) 1 = some 0x51 := by decide

theorem test_cmd_run : regAfter (exec .cmdRun (st e1 3 10 2)) 1 = some 0x71 ∧
    regAfter (exec .cmdRun (st [] 0 0 0)) 10 = some 0xC000 ∧ regAfter (exec .cmdRun (st [] 0 0 0)) 1 = some 0x3BA := by decide

/-- X5, and E5a: LEN 0 is no error for SCAN, which keeps CUR. -/
theorem test_cmd_scan : regAfter (exec .cmdScan { st e1 3 10 1 with srcOk := 0 }) 1 = some 0x3AA ∧
    regAfter (exec .cmdScan { st e1 3 10 1 with srcOk := 0 }) 10 = some 0xC000 ∧
    regAfter (exec .cmdScan (st [] 3 10 1)) 1 = some 0x69 ∧ regAfter (exec .cmdScan (st [] 3 10 1)) 5 = some 3 := by decide

/-- R179, and X8: while BUSY a CLEAR changes nothing. -/
theorem test_cmd_clear : regAfter (exec .cmdClear (st e1 3 10 1)) 1 = some 0 ∧
    regAfter (exec .cmdClear (st e1 3 10 1)) 2 = some 4 ∧ regAfter (exec .cmdClear (st e1 1 1 3)) 1 = some 0x71 ∧
    regAfter (exec .cmdClear (st e1 1 1 3)) 5 = some 1 := by decide

/-- X9: NOP and the reserved codes change no register. -/
theorem test_cmd_nop_reserved : regAfter (exec .cmdNop (st e1 3 10 1)) 1 = some 0x9A ∧
    regAfter (exec .cmdReserved5 (st e1 3 10 1)) 5 = some 3 ∧ regAfter (exec .cmdReserved6 (st e1 3 10 1)) 5 = some 3 ∧
    regAfter (exec .cmdReserved7 (st e1 3 10 1)) 5 = some 3 := by decide

/-- U6: LEN = 2^32 - 1 is refused at an accepted command. -/
theorem test_cmd_illegal_length : exec .cmdRun { st [] 0 0 0 with len := 0xFFFFFFFF } = .refused .lengthTooLarge := rfl

/-- R171: IDLE and DONE wait. -/
theorem test_wait_phases : regAfter (exec .idle State.reset) 1 = some 0 ∧
    regAfter (exec .done (st e1 3 10 1)) 1 = some 0x9A := by decide

/-- R24: a reserved phase stops by its code. -/
theorem test_reserved_phases : (exec .phaseReserved11 State.reset = .refused (.reservedPhase 11)) ∧
    (exec .phaseReserved15 State.reset = .refused (.reservedPhase 15)) := ⟨rfl, rfl⟩

/-! The value tables: E2, E3, E6, V4. -/

/-- E2's hertz column, and its INVALID rows. -/
theorem test_sfi_rows : [Instr.sfi0, .sfi1, .sfi2, .sfi3, .sfi4, .sfi5, .sfi6, .sfi7, .sfi8, .sfi9, .sfi10, .sfi11, .sfi12,
      .sfi13, .sfi14, .sfi15].map (fun i => regAfter (exec i State.reset) 8) =
    [some 96000, some 88200, some 64000, some 48000, some 44100, some 32000, some 24000, some 22050, some 16000, some 12000,
      some 11025, some 8000, some 7350, some 0, some 0, some 0] ∧
    [Instr.sfi13, .sfi14, .sfi15].map (fun i => regAfter (exec i State.reset) 11) = [some 16, some 16, some 16] := by decide

/-- E3: HDR of PROFMAP(0..7), and ERR of the same rows. -/
theorem test_profile_rows :
    [Instr.profile0, .profile1, .profile2, .profile3, .profile4, .profile5, .profile6, .profile7].map
      (fun i => (regAfter (exec i State.reset) 7, regAfter (exec i State.reset) 11)) =
    [(some 0, some 8), (some 4, some 0), (some 8, some 0), (some 12, some 0), (some 16, some 0), (some 0, some 8),
      (some 0, some 8), (some 0, some 8)] := by decide

/-- E6: HDR of CCMAP(0..7). -/
theorem test_chan_rows_valid : [Instr.chan0, .chan1, .chan2, .chan3, .chan4, .chan5, .chan6, .chan7].map
      (fun i => regAfter (exec i State.reset) 7) =
    [some 0, some 0x20, some 0x40, some 0x60, some 0x80, some 0xA0, some 0xC0, some 0xE0] := by decide

/-- R87: 8 to 15 are Reserved, HDR.CHAN 8 (bit 8 of HDR) and ERR bit 5. -/
theorem test_chan_rows_reserved :
    [Instr.chan8, .chan9, .chan10, .chan11, .chan12, .chan13, .chan14, .chan15].all (fun i =>
      regAfter (exec i State.reset) 7 == some 0x100 && regAfter (exec i State.reset) 11 == some 0x20) = true := by decide

/-- V4: version, protection and layer rows in HDR, and the layer rows in FST. -/
theorem test_bit_rows : [Instr.ver0, .ver1, .prot0, .prot1].map (fun i => regAfter (exec i State.reset) 7) =
      [some 0, some 1, some 2, some 0] ∧
    [Instr.layer0, .layer1, .layer2, .layer3].map (fun i => regAfter (exec i State.reset) 10) =
      [some 0x10, some 0x20, some 0x20, some 0x20] := by decide

/-! The host's port: X8, X9. -/

/-- X9: `RD 14` is 0, `WR CFG, 0xFFFFFFFF` stores bit 0, `WR SCANP, 0xFFFFFFFF` bits 1:0, `WR HDR` nothing. -/
theorem test_host_writes : regAfter (step (withHost State.reset [.wr 3 0xFFFFFFFF])) 3 = some 1 ∧
    regAfter (step (withHost State.reset [.wr 4 0xFFFFFFFF])) 4 = some 3 ∧
    regAfter (step (withHost State.reset [.wr 7 77])) 7 = some 0 ∧
    regAfter (step (withHost (st e1 1 1 3) [.wr 2 0])) 2 = some 4 := by decide

theorem test_host_reads : outAfter (step (withHost (st e1 3 10 1) [.rd 5])) = some 3 ∧
    outAfter (step (withHost (st e1 3 10 1) [.wait])) = some 0x9A ∧
    outAfter (step (withHost (st e1 3 10 1) [.rd 14])) = some 0 ∧ outAfter (step (withHost (st e1 3 10 1) [.rd 0])) = some 0 := by
  decide

/-- R220: reset in the middle of a run. -/
theorem test_host_reset : regAfter (step (withHost (st e1 2 6 3) [.reset])) 1 = some 0 ∧
    regAfter (step (withHost (st e1 2 6 3) [.reset])) 2 = some 0 := by decide

/-- R66, U4: a load while BUSY is refused; in IDLE it is done. -/
theorem test_host_load : step (withHost (st e1 1 1 3) [.load [0]]) = .refused .bufferWriteWhileBusy ∧
    (∃ t, step (withHost State.reset [.load e1]) = .next t ∧ t.bufByte 2 = 0x0E#8) :=
  ⟨rfl, _, rfl, rfl⟩

/-- R61: the steps that read without a check of their own stop at an offset at LEN. -/
theorem test_fault : exec .ver (st [] 0 2 1) = .fault (.bufferOutOfRange 0) ∧
    exec .prot (st [0xFF] 1 4 1) = .fault (.bufferOutOfRange 1) := ⟨rfl, rfl⟩

/-! Witnesses: for each obligation with hypotheses, states and operands that meet them, clause by clause. -/

/-- SYNC on E1's candidate. -/
def wSync : State := st e1 0 1 1
/-- SYNC at the last position of a buffer without a candidate (S2). -/
def wMiss : State := st [0xFF, 0x0F] 1 1 1
/-- VER of E1 (P1 before step 2). -/
def wVer : State := { st e1 1 2 1 with fst := { State.reset.fst with sync := .ok } }
/-- CHAN of `FF F1` (T1 before its last step): everything after `hb1` UNREAD. -/
def wChan : State :=
  { st [0xFF, 0xF1] 2 8 1 with
    raw := ⟨0, 0, 1, 0, 0, 0⟩, fst := ⟨.ok, .ok, .ok, .ok, .unread, .unread, .none, .none⟩,
    err := { State.reset.err with truncated := true } }
/-- SCAN of a RUN on E1 (P1 before step 10): one match below SI. -/
def wScan : State :=
  { st e1 3 9 3 with
    si := 1, count := 1, hdr := ⟨0, 0, 2, 2⟩, sfHz := 48000, raw := ⟨0, 0, 1, 2, 3, 2⟩,
    fst := ⟨.ok, .ok, .ok, .ok, .ok, .ok, .ok, .none⟩ }
/-- DONE after E1 (DECODE). -/
def wDone : State :=
  { st e1 3 10 1 with
    hdr := ⟨0, 0, 2, 2⟩, sfHz := 48000, raw := ⟨0, 0, 1, 2, 3, 2⟩, fst := ⟨.ok, .ok, .ok, .ok, .ok, .ok, .ok, .none⟩ }

theorem witness_inv_reset : RunInv State.reset :=
  ⟨by constructor <;> decide, by constructor <;> decide, by constructor <;> decide⟩
theorem witness_inv_sync : RunInv wSync :=
  ⟨by constructor <;> decide, by constructor <;> decide, by constructor <;> decide⟩
theorem witness_inv_miss : RunInv wMiss :=
  ⟨by constructor <;> decide, by constructor <;> decide, by constructor <;> decide⟩
theorem witness_inv_ver : RunInv wVer :=
  ⟨by constructor <;> decide, by constructor <;> decide, by constructor <;> decide⟩
theorem witness_inv_chan : RunInv wChan :=
  ⟨by constructor <;> decide, by constructor <;> decide, by constructor <;> decide⟩
theorem witness_inv_scan : RunInv wScan :=
  ⟨by constructor <;> decide, by constructor <;> decide, by constructor <;> decide⟩
theorem witness_inv_done : RunInv wDone :=
  ⟨by constructor <;> decide, by constructor <;> decide, by constructor <;> decide⟩

theorem witness_DecodeOfEncode : (Instr.readBit 0xFF 7).wf = true ∧ (Instr.readBits 0xFF 8 0).wf = true ∧
    (Instr.adtsHeader 1 3 1 1 1 15 3 63 3 0xFFFFFF).wf = true := by decide

theorem witness_EncodeOfDecode : decode .command 0xFFFFFFFF = .ok .cmdReserved7 ∧ decode .chanField 15 = .ok .chan15 := by
  decide

/-- A row, a number that is no row, and each of the five places a number is fetched from. -/
theorem witness_StepRunsTheDecodedRow :
    (fetch wSync = some (.phase, 1, wSync) ∧ decode .phase 1 = .ok .sync) ∧
    (fetch (withHost wSync [.present .pattern 0xFFFF]) = some (.pattern, 0xFFFF, wSync) ∧
      decode .pattern 0xFFFF = .error (.noRow .pattern 0xFFFF)) ∧
    wSync.host = [] ∧ (withHost wSync [.turn]).host = [.turn] ∧
    ((withHost wSync [.wait]).host = [.wait] ∧ (withHost wSync [.wait]).phase ≠ 10) ∧
    (withHost wDone [.wr 0 1]).host = [.wr 0 1] ∧
    (withHost wDone [.present .header 0]).host = [.present .header 0] := by decide

theorem witness_PlacedRowRunsNext : decodeTableWord 8 10 = some .done ∧ decodeTableWord 16 0xFFF8 = some .scanPattern11 ∧
    decodeTableWord 32 3 = some .cmdRun ∧ decodeTableWord 56 0xFFF10E02000000 = some (.adtsHeader 0 0 1 0 0 3 2 0 2 0) := by
  decide

theorem witness_HostRegisterAccess : (withHost wDone [.rd 13]).host = [.rd 13] ∧ (0 = 0 ∨ 14 ≤ 0) ∧ ((14 : Nat) = 0 ∨ 14 ≤ 14) ∧
    ((withHost wDone [.wr 2 7]).host = [.wr 2 7] ∧ isBusy (withHost wDone [.wr 2 7]) = false) ∧
    ((withHost wDone [.wr 3 7]).host = [.wr 3 7] ∧ isBusy (withHost wDone [.wr 3 7]) = false) ∧
    ((withHost wDone [.wr 4 7]).host = [.wr 4 7] ∧ isBusy (withHost wDone [.wr 4 7]) = false) ∧
    ((withHost wDone [.wr 5 7]).host = [.wr 5 7] ∧ ((5 : Nat) = 1 ∨ 5 ≤ 5)) ∧
    ((withHost wDone [.wr 1 7]).host = [.wr 1 7] ∧ ((1 : Nat) = 1 ∨ 5 ≤ 1)) ∧
    ((withHost wDone [.wait, .rd 7]).host = .wait :: [.rd 7] ∧ (withHost wDone [.wait, .rd 7]).phase = 10) ∧
    ((withHost wScan [.wr 0 4]).host = [.wr 0 4] ∧ 1 ≤ (withHost wScan [.wr 0 4]).phase.toNat ∧
      (withHost wScan [.wr 0 4]).phase.toNat ≤ 9) := by decide

/-- A reset in the last phase of a run, and a CLEAR and a parameter write in its first and last phases. -/
theorem witness_ResetRestoresTheTable : (withHost wScan [.reset, .rd 1]).host = .reset :: [.rd 1] ∧
    ((withHost wScan [.wr 0 4]).host = .wr 0 4 :: [] ∧ isSpecMove (.wr 0 4) = true ∧
      HostAct.wr 0 4 ∉ [HostAct.reset, .turn, .wait] ∧ (withHost wScan [.wr 0 4]).phase.toNat = 9 ∧
      ∃ t, step (withHost wScan [.wr 0 4]) = .next t) ∧
    ((withHost wSync [.wr 2 0]).host = .wr 2 0 :: [] ∧ isSpecMove (.wr 2 0) = true ∧
      HostAct.wr 2 0 ∉ [HostAct.reset, .turn, .wait] ∧ (withHost wSync [.wr 2 0]).phase.toNat = 1 ∧
      ∃ t, step (withHost wSync [.wr 2 0]) = .next t) :=
  ⟨rfl, ⟨rfl, rfl, by decide, rfl, _, rfl⟩, ⟨rfl, rfl, by decide, rfl, _, rfl⟩⟩

/-- Every status in one FST, so that each code is met; and the bits of ERR, one by one, are `EachErrorSetsItsOwnBit`'s. -/
theorem witness_RegisterWordLayout :
    regWord { State.reset with fst := ⟨.none, .ok, .invalid, .unread, .none, .ok, .invalid, .unread⟩ } 10 = 0xE4E4#32 := by decide

theorem witness_ReadBitGivesTheBit : (0 : Nat) ≤ 7 ∧ (7 : Nat) ≤ 7 := by decide

theorem witness_ReadBitsGivesTheField : 0 + 8 ≤ 8 ∧ 8 + 0 ≤ 8 := by decide

theorem witness_OutOfContractCallsStop : (8 : Nat) ≤ 8 ∧ 8 < 1 + 8 := by decide

theorem witness_SyncStep :
    (wSync.cur.toNat + 1 < wSync.len.toNat ∧ wSync.bufByte wSync.cur.toNat = 0xFF#8 ∧
      (wSync.bufByte (wSync.cur.toNat + 1)).extractLsb' 4 4 = 0xF#4) ∧
    ((st [0xFF, 0x0F] 0 1 1).cur.toNat + 1 < (st [0xFF, 0x0F] 0 1 1).len.toNat ∧
      ¬ ((st [0xFF, 0x0F] 0 1 1).bufByte 0 = 0xFF#8 ∧ ((st [0xFF, 0x0F] 0 1 1).bufByte 1).extractLsb' 4 4 = 0xF#4)) ∧
    wMiss.len.toNat ≤ wMiss.cur.toNat + 1 ∧ wMiss.phase = 1 ∧ wSync.phase = 1 ∧ candidateAt wSync 0 = true := by decide

theorem witness_VerStep : wVer.cur.toNat < wVer.len.toNat := by decide

theorem witness_LayerStep : ((st e1 1 3 1).cur.toNat < (st e1 1 3 1).len.toNat ∧
      ((st e1 1 3 1).bufByte (st e1 1 3 1).cur.toNat).extractLsb' 1 2 = 0#2) ∧
    ((st [0xFF, 0xF2] 1 3 1).cur.toNat < (st [0xFF, 0xF2] 1 3 1).len.toNat ∧
      ((st [0xFF, 0xF2] 1 3 1).bufByte (st [0xFF, 0xF2] 1 3 1).cur.toNat).extractLsb' 1 2 ≠ 0#2) := by decide

theorem witness_ProtStep : (st [0xFF, 0xF0] 1 4 1).cur.toNat < (st [0xFF, 0xF0] 1 4 1).len.toNat := by decide

theorem witness_ProfileStep : ((st e1 1 5 1).cur.toNat + 1 < (st e1 1 5 1).len.toNat ∧
      ((st e1 1 5 1).bufByte ((st e1 1 5 1).cur.toNat + 1)).extractLsb' 0 2 ≠ 0#2) ∧
    ((st [0xFF, 0xF1, 0x0C] 1 5 1).cur.toNat + 1 < (st [0xFF, 0xF1, 0x0C] 1 5 1).len.toNat ∧
      ((st [0xFF, 0xF1, 0x0C] 1 5 1).bufByte ((st [0xFF, 0xF1, 0x0C] 1 5 1).cur.toNat + 1)).extractLsb' 0 2 = 0#2) ∧
    (st [0xFF, 0xF1] 1 5 1).len.toNat ≤ (st [0xFF, 0xF1] 1 5 1).cur.toNat + 1 := by decide

theorem witness_SfiStep : ((st [0xFF, 0xF1, 0x31] 2 6 1).cur.toNat < (st [0xFF, 0xF1, 0x31] 2 6 1).len.toNat ∧
      Config.sfTab[((st [0xFF, 0xF1, 0x31] 2 6 1).bufByte 2).extractLsb' 2 4 |>.toNat]? = some 7350) ∧
    ((st [0xFF, 0xF1, 0x35] 2 6 1).cur.toNat < (st [0xFF, 0xF1, 0x35] 2 6 1).len.toNat ∧
      13 ≤ (((st [0xFF, 0xF1, 0x35] 2 6 1).bufByte 2).extractLsb' 2 4).toNat) ∧
    (st [0xFF, 0xF1] 2 6 1).len.toNat ≤ (st [0xFF, 0xF1] 2 6 1).cur.toNat := by decide

theorem witness_ChanStep : (st e1 2 8 3).cur.toNat + 1 < (st e1 2 8 3).len.toNat ∧
    (st [0xFF, 0xF1, 0x8C] 2 8 1).len.toNat ≤ (st [0xFF, 0xF1, 0x8C] 2 8 1).cur.toNat + 1 := by decide

theorem witness_ScanStep :
    ((scanAt [0xFF, 0xF8] 0 1 1).si.toNat + 1 < (scanAt [0xFF, 0xF8] 0 1 1).len.toNat ∧
      (scanAt [0xFF, 0xF8] 0 1 1).bufByte 0 = 0xFF#8 ∧
      ((scanAt [0xFF, 0xF8] 0 1 1).bufByte 1).toNat = 0xF0 + 8 * (scanAt [0xFF, 0xF8] 0 1 1).scanp.ver.toNat +
        (1 - (scanAt [0xFF, 0xF8] 0 1 1).scanp.crc.toNat)) ∧
    ((scanAt [0xFF, 0xFF] 0 0 0).si.toNat + 1 < (scanAt [0xFF, 0xFF] 0 0 0).len.toNat ∧
      ¬ ((scanAt [0xFF, 0xFF] 0 0 0).bufByte 0 = 0xFF#8 ∧ ((scanAt [0xFF, 0xFF] 0 0 0).bufByte 1).toNat =
        0xF0 + 8 * (scanAt [0xFF, 0xFF] 0 0 0).scanp.ver.toNat + (1 - (scanAt [0xFF, 0xFF] 0 0 0).scanp.crc.toNat))) ∧
    (scanAt [] 0 0 0).len.toNat ≤ (scanAt [] 0 0 0).si.toNat + 1 := by decide

theorem witness_WaitingPhasesChangeNothing : (wDone.host = [] ∧ wDone.phase = 10) ∧
    (State.reset.host = [] ∧ State.reset.phase = 0) ∧ 5 ≤ 5 := by decide

/-- The hypotheses of the accepted commands' statements: in IDLE with LEN 0, and in DONE. -/
theorem witness_commands : (isBusy State.reset = false ∧ State.reset.len ≠ 4294967295#32) ∧
    (isBusy wDone = false ∧ wDone.len ≠ 4294967295#32) := by decide

theorem witness_CommandCodesNopAndReserved : (State.reset.phase = 0 ∧ State.reset.len ≠ 4294967295#32) ∧
    (wDone.phase = 10 ∧ wDone.len ≠ 4294967295#32) ∧ (decode .command (0xFFFFFFFF#32 : Word).toNat = .ok .cmdReserved7 ∧
      isBusy wScan = true) := by decide

theorem witness_CommandsRefusedOrIgnored :
    (isBusy { wDone with len := 4294967295#32 } = false ∧ { wDone with len := 4294967295#32 }.len = 4294967295#32) ∧
    isBusy wScan = true ∧
    Instr.cmdReserved7 ∈ [Instr.cmdNop, .cmdDecode, .cmdScan, .cmdRun, .cmdClear, .cmdReserved5, .cmdReserved6, .cmdReserved7] := by
  decide

theorem witness_RowsAreWhatTheirStepsDo :
    (wSync.cur.toNat + 1 < wSync.len.toNat ∧
      decodeBytes .candidate [wSync.bufByte wSync.cur.toNat, wSync.bufByte (wSync.cur.toNat + 1)] = .ok (.syncCandidate 1)) ∧
    ((scanAt e1 0 0 0).si.toNat + 1 < (scanAt e1 0 0 0).len.toNat ∧
      decodeBytes .pattern [(scanAt e1 0 0 0).bufByte 0, (scanAt e1 0 0 0).bufByte 1] = .ok .scanPattern00) ∧
    (wVer.cur.toNat < wVer.len.toNat ∧ decode .verField ((wVer.bufByte wVer.cur.toNat).toNat / 8 % 2) = .ok .ver0 ∧
      decode .layerField ((wVer.bufByte wVer.cur.toNat).toNat / 2 % 4) = .ok .layer0 ∧
      decode .protField ((wVer.bufByte wVer.cur.toNat).toNat % 2) = .ok .prot1) ∧
    ((st e1 1 5 1).cur.toNat + 1 < (st e1 1 5 1).len.toNat ∧
      decode .profileField (((st e1 1 5 1).bufByte ((st e1 1 5 1).cur.toNat + 1)).toNat % 4) = .ok .profile2) ∧
    ((st e1 2 6 1).cur.toNat < (st e1 2 6 1).len.toNat ∧
      decode .sfiField (((st e1 2 6 1).bufByte (st e1 2 6 1).cur.toNat).toNat / 4 % 16) = .ok .sfi3) ∧
    ((st [0xFF, 0xF1, 0x8E, 3] 2 8 3).cur.toNat + 1 < (st [0xFF, 0xF1, 0x8E, 3] 2 8 3).len.toNat ∧
      decode .chanField (((st [0xFF, 0xF1, 0x8E, 3] 2 8 3).bufByte 2).toNat / 128 * 4 +
        ((st [0xFF, 0xF1, 0x8E, 3] 2 8 3).bufByte 3).toNat % 4) = .ok .chan7) := by decide

theorem witness_DecoderStepFrame : Instr.sync ∈ [Instr.sync, .ver, .layer, .prot, .profile, .sfi, .priv, .chan] ∧
    (∃ t, exec .sync wMiss = .next t) ∧ (∃ t, exec .chan wChan = .next t) ∧ (∃ t, exec .priv wChan = .next t) ∧
    (Instr.chan ≠ .chan ∨ wChan.mode ≠ 3) ∧ Instr.priv ∉ [Instr.sync, .profile, .chan] ∧
    Instr.priv ∉ [Instr.profile, .sfi, .chan] :=
  ⟨by decide, ⟨_, rfl⟩, ⟨_, rfl⟩, ⟨_, rfl⟩, by decide, by decide, by decide⟩

theorem witness_ScannerFrame : Instr.scanPattern11 ∈ [Instr.scan, .scanPattern00, .scanPattern01, .scanPattern10, .scanPattern11] ∧
    (∃ t, exec .scan wScan = .next t) ∧ (∃ t, exec .scanPattern11 wScan = .next t) :=
  ⟨by decide, ⟨_, rfl⟩, ⟨_, rfl⟩⟩

theorem witness_CommandFrame : Instr.cmdScan ∈ [Instr.cmdNop, .cmdDecode, .cmdScan, .cmdRun, .cmdClear, .cmdReserved5, .cmdReserved6,
      .cmdReserved7] ∧ (∃ t, exec .cmdScan wDone = .next t) ∧ (∃ t, exec .cmdClear wScan = .next t) :=
  ⟨by decide, ⟨_, rfl⟩, ⟨_, rfl⟩⟩

/-- CHAN in a RUN writes SCANP. -/
theorem witness_NoRowWritesBufferOrParameters : ∃ t, exec .chan { st e1 2 8 3 with hdr := ⟨1, 1, 2, 0⟩ } = .next t ∧
    t.scanp ≠ { st e1 2 8 3 with hdr := ⟨1, 1, 2, 0⟩ }.scanp := ⟨_, rfl, by decide⟩

/-- `PhaseFollowsTheTransitionTable` and `WorkingRegistersStepByOne`: a sequencer step, a command, a reset. -/
theorem witness_spec_moves : (wSync.host.all isSpecMove = true ∧ ∃ t, step wSync = .next t) ∧
    ((withHost wDone [.wr 0 3]).host.all isSpecMove = true ∧ ∃ t, step (withHost wDone [.wr 0 3]) = .next t) ∧
    ((withHost wScan [.reset]).host.all isSpecMove = true ∧ ∃ t, step (withHost wScan [.reset]) = .next t) :=
  ⟨⟨by decide, _, rfl⟩, ⟨by decide, _, rfl⟩, ⟨by decide, _, rfl⟩⟩

theorem witness_ErrorFlagsAreSticky : resetsOrCommands [1, 3, 4] (withHost wChan [.turn]) = false ∧
    (∃ t, step (withHost wChan [.turn]) = .next t) ∧ (withHost wChan [.turn]).err.has .truncated = true :=
  ⟨by decide, ⟨_, rfl⟩, by decide⟩

theorem witness_StatusesDoNotSteer : Instr.sync ∈ [Instr.sync, .ver, .layer, .prot, .profile, .sfi, .priv, .chan, .scan] ∧
    (∃ t, exec .sync wMiss = .next t) ∧ (∃ t, exec .scan wScan = .next t) := ⟨by decide, ⟨_, rfl⟩, ⟨_, rfl⟩⟩

theorem witness_ResultsAreStableInDone : (withHost wDone [.wr 2 9]).host.all isSpecMove = true ∧
    (withHost wDone [.wr 2 9]).phase = 10 ∧ resetsOrCommands [1, 2, 3, 4] (withHost wDone [.wr 2 9]) = false ∧
    (∃ t, step (withHost wDone [.wr 2 9]) = .next t) := ⟨by decide, by decide, by decide, _, rfl⟩

/-- A buffer in canonical form and a load that goes on; a load while BUSY; and lists of the longest length and one more. -/
theorem witness_StepKeepsBufferForm : (withHost wDone [.load [7, 8]]).buf.wf = true ∧
    (∃ t, step (withHost wDone [.load [7, 8]]) = .next t) ∧
    ((withHost wDone [.load [7, 8]]).host = .load [7, 8] :: [] ∧ isBusy (withHost wDone [.load [7, 8]]) = false ∧
      [(7 : Byte), 8].length ≤ 4294967294) ∧
    ((withHost wScan [.load []]).host = .load [] :: [] ∧ isBusy (withHost wScan [.load []]) = true) ∧
    (∀ n : Nat, (withHost wDone [.load (List.replicate n 0)]).host = .load (List.replicate n 0) :: [] ∧
      isBusy (withHost wDone [.load (List.replicate n 0)]) = false) ∧
    (List.replicate 4294967294 (0 : Byte)).length ≤ 4294967294 ∧ 4294967294 < (List.replicate 4294967295 (0 : Byte)).length :=
  ⟨by decide, ⟨_, rfl⟩, ⟨rfl, rfl, by decide⟩, ⟨rfl, rfl⟩, fun _ => ⟨rfl, rfl⟩, by rw [List.length_replicate],
    by rw [List.length_replicate]; decide⟩

/-- With `witness_inv_sync`, `witness_inv_miss`, `witness_inv_ver`, `witness_inv_chan`, `witness_inv_scan` and
`witness_inv_done`: the step of each of those states goes on. -/
theorem witness_StepKeepsRunInvariant : (∃ t, step wSync = .next t) ∧ (∃ t, step wMiss = .next t) ∧
    (∃ t, step wVer = .next t) ∧ (∃ t, step wChan = .next t) ∧ (∃ t, step wScan = .next t) ∧ (∃ t, step wDone = .next t) :=
  ⟨⟨_, rfl⟩, ⟨_, rfl⟩, ⟨_, rfl⟩, ⟨_, rfl⟩, ⟨_, rfl⟩, ⟨_, rfl⟩⟩

theorem witness_RunInvariantAtReset : [HostAct.load e1, .wr 2 4, .wr 3 1, .wr 0 3, .wait, .rd 13].all isSpecMove = true := by
  decide

/-- With `witness_inv_ver` and `witness_inv_scan`; and VER with CUR at LEN, outside the invariant. -/
theorem witness_NoStepReadsOutsideTheBuffer : wVer.host = [] ∧ wScan.host = [] ∧
    (Instr.ver ∈ [Instr.ver, .layer, .prot] ∧ (st [0xFF] 1 2 1).len.toNat ≤ (st [0xFF] 1 2 1).cur.toNat) := by decide

/-- The three clauses, with `witness_inv_chan` and `witness_inv_scan`; in the first CUR is LEN, its largest value there. -/
theorem witness_WorkingRegistersStayBounded : (1 ≤ wChan.phase.toNat ∧ wChan.phase.toNat ≤ 8 ∧ wChan.cur = wChan.len) ∧
    (wScan.phase = 9 ∧ wScan.mode = 3) := by decide

/-- With `witness_inv_reset` (every status NONE) and `witness_inv_chan` (some OK, some UNREAD). -/
theorem witness_AbsentFieldsHoldFixedContents : (State.reset.fst.ver ≠ .ok ∧ State.reset.fst.crc ≠ .ok) ∧
    (wChan.fst.prof ≠ .ok ∧ wChan.fst.sf ≠ .ok ∧ wChan.fst.cc ≠ .ok) := by decide

/-- `DecodeRunGivesTheReport`, `ScanRunCountsTheMatches`, `RunIsDecodeThenScan`: E1 in IDLE, with a candidate. -/
theorem witness_runs : isBusy (st e1 0 0 0) = false ∧ (st e1 0 0 0).host = [] ∧ (st e1 0 0 0).srcOk = 1 ∧
    1 ≤ (st e1 0 0 0).len.toNat ∧ (st e1 0 0 0).len ≠ 4294967295#32 ∧ firstCandidate (st e1 0 0 0) = some 0 := by decide

/-- A scan of an empty buffer is inside `ScanRunCountsTheMatches`. -/
theorem witness_ScanRunCountsTheMatches : isBusy (st [] 0 0 0) = false ∧ (st [] 0 0 0).host = [] ∧ (st [] 0 0 0).srcOk = 1 ∧
    (st [] 0 0 0).len ≠ 4294967295#32 := by decide

/-- P4's buffer. -/
theorem witness_RunWithoutCandidateSkipsTheScan : isBusy (st [0, 0xFF, 0x0F, 0xFF] 0 0 0) = false ∧
    (st [0, 0xFF, 0x0F, 0xFF] 0 0 0).host = [] ∧ (st [0, 0xFF, 0x0F, 0xFF] 0 0 0).srcOk = 1 ∧
    1 ≤ (st [0, 0xFF, 0x0F, 0xFF] 0 0 0).len.toNat ∧ (st [0, 0xFF, 0x0F, 0xFF] 0 0 0).len ≠ 4294967295#32 ∧
    firstCandidate (st [0, 0xFF, 0x0F, 0xFF] 0 0 0) = none := by decide

theorem witness_HeaderRowIsEightSteps : wSync.host = [] ∧ wSync.phase = 1 ∧ wSync.cur.toNat + 3 < wSync.len.toNat ∧
    decodeBytes .header [wSync.bufByte wSync.cur.toNat, wSync.bufByte (wSync.cur.toNat + 1),
      wSync.bufByte (wSync.cur.toNat + 2), wSync.bufByte (wSync.cur.toNat + 3), 0, 0, 0] =
      .ok (.adtsHeader 0 0 1 0 0 3 2 0 2 0) := by decide

/-- The same bytes with other MODE and SCANP. -/
theorem witness_ReportDependsOnTheBufferAlone : isBusy (st e1 0 0 0) = false ∧ isBusy wDone = false ∧
    (st e1 0 0 0).host = [] ∧ wDone.host = [] ∧ (st e1 0 0 0).srcOk = 1 ∧ wDone.srcOk = 1 ∧ 1 ≤ (st e1 0 0 0).len.toNat ∧
    (st e1 0 0 0).len ≠ 4294967295#32 ∧ wDone.len = (st e1 0 0 0).len ∧
    (∀ a, a < (st e1 0 0 0).len.toNat → wDone.bufByte a = (st e1 0 0 0).bufByte a) :=
  ⟨rfl, rfl, rfl, rfl, rfl, rfl, by decide, by decide, rfl, fun _ _ => rfl⟩

/-- A match at 0, and a half match at 0. -/
theorem witness_MatchesDoNotOverlap : patternAt (st e1 0 0 0) ⟨0, 0⟩ 0 = true ∧
    (0 + 1 < (st [0xFF, 0x0F] 0 0 0).len.toNat ∧ (st [0xFF, 0x0F] 0 0 0).bufByte 0 = 0xFF#8 ∧
      candidateAt (st [0xFF, 0x0F] 0 0 0) 0 = false) := by decide

end Sys2Proof.Tests
end

namespace Sys2Proof.Machine

/-! ### The sequencer's steps, one equation per arm (R131 to R138, R162) -/

theorem candidateAt_iff (s : State) (j : Nat) :
    candidateAt s j = true ↔ j + 1 < s.len.toNat ∧ isCandidate (s.bufByte j) (s.bufByte (j + 1)) = true := by
  simp [candidateAt]

theorem patternAt_of_lt {s : State} {i : Nat} (p : Scanp) (h : i + 1 < s.len.toNat) :
    patternAt s p i = isPattern (s.bufByte i) (s.bufByte (i + 1)) p := by
  simp [patternAt, h]

theorem exec_sync_pair {s : State} (h : s.cur.toNat + 1 < s.len.toNat) :
    exec .sync s = .next (if candidateAt s s.cur.toNat then syncFound s else advance s) := by
  change execSync s = _
  simp [execSync, h, withByte_of_lt (Nat.lt_of_succ_lt h), withByte_of_lt h, syncPair, candidateAt]

theorem exec_sync_fail {s : State} (h : s.len.toNat ≤ s.cur.toNat + 1) : exec .sync s = .next (syncFail s) :=
  if_neg (Nat.not_lt.2 h)

theorem exec_ver {s : State} (h : s.cur.toNat < s.len.toNat) :
    exec .ver s = .next (verBits (hb1Ver (s.bufByte s.cur.toNat)) s) := if_pos h

theorem exec_layer {s : State} (h : s.cur.toNat < s.len.toNat) :
    exec .layer s = .next (layerBits (hb1Layer (s.bufByte s.cur.toNat)) s) := if_pos h

theorem exec_prot {s : State} (h : s.cur.toNat < s.len.toNat) :
    exec .prot s = .next (protBits (hb1Prot (s.bufByte s.cur.toNat)) s) := if_pos h

theorem exec_profile {s : State} (h : s.cur.toNat + 1 < s.len.toNat) :
    exec .profile s = .next (profileBits (hb2Profile (s.bufByte (s.cur.toNat + 1))) s) :=
  (if_pos h).trans (withByte_of_lt h _)

theorem exec_profile_truncated {s : State} (h : s.len.toNat ≤ s.cur.toNat + 1) :
    exec .profile s = .next (profileTruncated s) := if_neg (Nat.not_lt.2 h)

theorem exec_sfi {s : State} (h : s.cur.toNat < s.len.toNat) :
    exec .sfi s = .next (sfiBits (hb2Sfi (s.bufByte s.cur.toNat)) s) := (if_pos h).trans (withByte_of_lt h _)

theorem exec_sfi_truncated {s : State} (h : s.len.toNat ≤ s.cur.toNat) : exec .sfi s = .next (sfiTruncated s) :=
  if_neg (Nat.not_lt.2 h)

/-- R137: whether `hb2` exists or not, PHASE alone changes. -/
theorem exec_priv (s : State) : exec .priv s = .next (s.setPhase Phase.chan) := by
  change execPriv s = _
  unfold execPriv
  split
  next h => exact withByte_of_lt h _
  next => rfl

theorem exec_chan {s : State} (h : s.cur.toNat + 1 < s.len.toNat) :
    exec .chan s = .next (chanBits (chanValue (hb2ChanHigh (s.bufByte s.cur.toNat))
      (hb3ChanLow (s.bufByte (s.cur.toNat + 1)))) s) :=
  (if_pos h).trans ((withByte_of_lt (Nat.lt_of_succ_lt h) _).trans (withByte_of_lt h _))

theorem exec_chan_truncated {s : State} (h : s.len.toNat ≤ s.cur.toNat + 1) :
    exec .chan s = .next (chanTruncated s) := if_neg (Nat.not_lt.2 h)

theorem exec_scan_pair {s : State} (h : s.si.toNat + 1 < s.len.toNat) :
    exec .scan s = .next (scanPair (s.bufByte s.si.toNat) (s.bufByte (s.si.toNat + 1)) s) :=
  (if_pos h).trans ((withByte_of_lt (Nat.lt_of_succ_lt h) _).trans (withByte_of_lt h _))

theorem exec_scan_end {s : State} (h : s.len.toNat ≤ s.si.toNat + 1) : exec .scan s = .next (scanEnd s) :=
  if_neg (Nat.not_lt.2 h)

/-- Without a byte at CUR the three steps that read one unasked fault (R61). -/
theorem exec_fault_of_le {s : State} {i : Instr} (hi : i ∈ [.ver, .layer, .prot]) (h : s.len.toNat ≤ s.cur.toNat) :
    exec i s = .fault (.bufferOutOfRange s.cur.toNat) := by
  simp only [List.mem_cons, List.not_mem_nil, or_false] at hi
  obtain rfl | rfl | rfl := hi <;> exact if_neg (Nat.not_lt.2 h)

theorem lt_of_exec_next {s t : State} {i : Instr} (hi : i ∈ [.ver, .layer, .prot]) (h : exec i s = .next t) :
    s.cur.toNat < s.len.toNat := by
  by_contra hl
  rw [exec_fault_of_le hi (Nat.le_of_not_lt hl)] at h
  cases h

/-! ### What a completed row has done -/

/-- What a phase row has done when it completes: one constructor per arm, with the arm's guard. -/
inductive SeqEffect (s : State) : Instr → State → Prop
  | idle : SeqEffect s .idle s
  | done : SeqEffect s .done s
  | syncFound (hc : candidateAt s s.cur.toNat = true) : SeqEffect s .sync (syncFound s)
  | syncPass (h : s.cur.toNat + 1 < s.len.toNat) (hc : candidateAt s s.cur.toNat = false) :
      SeqEffect s .sync (advance s)
  | syncFail (h : s.len.toNat ≤ s.cur.toNat + 1) : SeqEffect s .sync (syncFail s)
  | ver (h : s.cur.toNat < s.len.toNat) : SeqEffect s .ver (verBits (hb1Ver (s.bufByte s.cur.toNat)) s)
  | layer (h : s.cur.toNat < s.len.toNat) : SeqEffect s .layer (layerBits (hb1Layer (s.bufByte s.cur.toNat)) s)
  | prot (h : s.cur.toNat < s.len.toNat) : SeqEffect s .prot (protBits (hb1Prot (s.bufByte s.cur.toNat)) s)
  | profile (h : s.cur.toNat + 1 < s.len.toNat) :
      SeqEffect s .profile (profileBits (hb2Profile (s.bufByte (s.cur.toNat + 1))) s)
  | profileTruncated (h : s.len.toNat ≤ s.cur.toNat + 1) : SeqEffect s .profile (profileTruncated s)
  | sfi (h : s.cur.toNat < s.len.toNat) : SeqEffect s .sfi (sfiBits (hb2Sfi (s.bufByte s.cur.toNat)) s)
  | sfiTruncated (h : s.len.toNat ≤ s.cur.toNat) : SeqEffect s .sfi (sfiTruncated s)
  | priv : SeqEffect s .priv (s.setPhase Phase.chan)
  | chan (h : s.cur.toNat + 1 < s.len.toNat) :
      SeqEffect s .chan (chanBits (chanValue (hb2ChanHigh (s.bufByte s.cur.toNat))
        (hb3ChanLow (s.bufByte (s.cur.toNat + 1)))) s)
  | chanTruncated (h : s.len.toNat ≤ s.cur.toNat + 1) : SeqEffect s .chan (chanTruncated s)
  | scanPair (h : s.si.toNat + 1 < s.len.toNat) :
      SeqEffect s .scan (scanPair (s.bufByte s.si.toNat) (s.bufByte (s.si.toNat + 1)) s)
  | scanEnd (h : s.len.toNat ≤ s.si.toNat + 1) : SeqEffect s .scan (scanEnd s)

/-- The effects are exactly the completed executions: each arm's equation, read backwards. -/
theorem SeqEffect.exec_eq {s t : State} {i : Instr} (h : SeqEffect s i t) : exec i s = .next t := by
  cases h with
  | idle => rfl
  | done => rfl
  | syncFound hc => rw [exec_sync_pair ((candidateAt_iff _ _).1 hc).1, if_pos hc]
  | syncPass h hc => simp [exec_sync_pair h, hc]
  | syncFail h => exact exec_sync_fail h
  | ver h => exact exec_ver h
  | layer h => exact exec_layer h
  | prot h => exact exec_prot h
  | profile h => exact exec_profile h
  | profileTruncated h => exact exec_profile_truncated h
  | sfi h => exact exec_sfi h
  | sfiTruncated h => exact exec_sfi_truncated h
  | priv => exact exec_priv s
  | chan h => exact exec_chan h
  | chanTruncated h => exact exec_chan_truncated h
  | scanPair h => exact exec_scan_pair h
  | scanEnd h => exact exec_scan_end h

/-- An execution has one outcome: what an arm's effect says is what happened. -/
theorem SeqEffect.det {s t u : State} {i : Instr} (h : exec i s = .next t) (he : SeqEffect s i u) :
    SeqEffect s i t := by
  rw [he.exec_eq] at h; cases h; exact he

/-- A phase row that completes did one of the arms' effects. -/
theorem seqEffect_of_exec {s t : State} {i : Instr} (hi : (encode i).1 = .phase) (h : exec i s = .next t) :
    SeqEffect s i t := by
  cases i with
  | idle => exact .det h .idle
  | done => exact .det h .done
  | sync =>
    rcases Nat.lt_or_ge (s.cur.toNat + 1) s.len.toNat with hl | hl
    · cases hc : candidateAt s s.cur.toNat with
      | true => exact .det h (.syncFound hc)
      | false => exact .det h (.syncPass hl hc)
    · exact .det h (.syncFail hl)
  | ver => exact .det h (.ver (lt_of_exec_next (by simp) h))
  | layer => exact .det h (.layer (lt_of_exec_next (by simp) h))
  | prot => exact .det h (.prot (lt_of_exec_next (by simp) h))
  | profile =>
    rcases Nat.lt_or_ge (s.cur.toNat + 1) s.len.toNat with hl | hl
    · exact .det h (.profile hl)
    · exact .det h (.profileTruncated hl)
  | sfi =>
    rcases Nat.lt_or_ge s.cur.toNat s.len.toNat with hl | hl
    · exact .det h (.sfi hl)
    · exact .det h (.sfiTruncated hl)
  | priv => exact .det h .priv
  | chan =>
    rcases Nat.lt_or_ge (s.cur.toNat + 1) s.len.toNat with hl | hl
    · exact .det h (.chan hl)
    · exact .det h (.chanTruncated hl)
  | scan =>
    rcases Nat.lt_or_ge (s.si.toNat + 1) s.len.toNat with hl | hl
    · exact .det h (.scanPair hl)
    · exact .det h (.scanEnd hl)
  | phaseReserved11 | phaseReserved12 | phaseReserved13 | phaseReserved14 | phaseReserved15 => cases h
  | _ => cases hi

/-- What a command row has done when it completes (R170, R172 to R174, R179). -/
inductive CmdEffect (s : State) : Instr → State → Prop
  | ignored {i : Instr} (hi : (encode i).1 = .command) (hb : isBusy s = true) : CmdEffect s i s
  | nop {i : Instr} (hb : isBusy s = false) (hl : s.len ≠ 4294967295#32)
      (hi : i ∈ [.cmdNop, .cmdReserved5, .cmdReserved6, .cmdReserved7]) : CmdEffect s i s
  | decode (hb : isBusy s = false) (hl : s.len ≠ 4294967295#32) : CmdEffect s .cmdDecode (startDecodeOnly s)
  | scan (hb : isBusy s = false) (hl : s.len ≠ 4294967295#32) : CmdEffect s .cmdScan (startScan s)
  | run (hb : isBusy s = false) (hl : s.len ≠ 4294967295#32) : CmdEffect s .cmdRun (startRun s)
  | clear (hb : isBusy s = false) (hl : s.len ≠ 4294967295#32) : CmdEffect s .cmdClear (forget s)

/-- A command row that completes, from what its effect is when it is accepted. -/
theorem CmdEffect.of_accept {f : State → State} {s t : State} {i : Instr} (hi : (encode i).1 = .command)
    (h : acceptCommand f s = .next t) (hf : isBusy s = false → s.len ≠ 4294967295#32 → CmdEffect s i (f s)) :
    CmdEffect s i t := by
  obtain ⟨hb, rfl⟩ | ⟨hb, hl, rfl⟩ := acceptCommand_cases h
  · exact .ignored hi hb
  · exact hf hb hl

/-- A command row that completes was ignored, or did its command. -/
theorem cmdEffect_of_exec {s t : State} {i : Instr} (hi : (encode i).1 = .command) (h : exec i s = .next t) :
    CmdEffect s i t := by
  cases i with
  | cmdDecode => exact .of_accept hi h .decode
  | cmdScan => exact .of_accept hi h .scan
  | cmdRun => exact .of_accept hi h .run
  | cmdClear => exact .of_accept hi h .clear
  | cmdNop | cmdReserved5 | cmdReserved6 | cmdReserved7 => exact .of_accept hi h fun hb hl => .nop hb hl (by simp)
  | _ => cases hi

/-- What any row has done when it completes: the block's own rows above, and the rows of patterns and value tables. -/
inductive RowEffect (s : State) : Instr → State → Prop
  | seq {i : Instr} {t : State} (h : SeqEffect s i t) : RowEffect s i t
  | cmd {i : Instr} {t : State} (h : CmdEffect s i t) : RowEffect s i t
  | readBit (byte : Byte) (offset : Nat) (hw : (Instr.readBit byte offset).wf = true) :
      RowEffect s (.readBit byte offset) (s.setDataOut ((readBit byte offset).setWidth 32))
  | readBits (byte : Byte) (offset count : Nat) (hw : (Instr.readBits byte offset count).wf = true) :
      RowEffect s (.readBits byte offset count) (s.setDataOut ((readBits byte offset count).setWidth 32))
  | candidate (low : BitVec 4) : RowEffect s (.syncCandidate low) (syncPair 0xFF#8 (0xF0#8 ||| low.setWidth 8) s)
  | header (v : BitVec 1) (l : BitVec 2) (p h x : BitVec 1) (ssss : BitVec 4) (pp : BitVec 2) (u6 : BitVec 6)
      (cc : BitVec 2) (u24 : BitVec 24) : RowEffect s (.adtsHeader v l p h x ssss pp u6 cc u24)
        (chanBits (chanValue h cc) (privBits x (sfiBits ssss (profileBits pp (protBits p (layerBits l (verBits v
          (syncFound s))))))))
  | pattern {i : Instr} (b : Byte) (hi : decode .pattern (0xFF00 + b.toNat) = .ok i) :
      RowEffect s i (scanPair 0xFF#8 b s)
  | verField {i : Instr} (v : BitVec 1) (hi : decode .verField v.toNat = .ok i) : RowEffect s i (applyVer v s)
  | protField {i : Instr} (v : BitVec 1) (hi : decode .protField v.toNat = .ok i) : RowEffect s i (applyProt v s)
  | layerField {i : Instr} (v : BitVec 2) (hi : decode .layerField v.toNat = .ok i) : RowEffect s i (applyLayer v s)
  | profileField {i : Instr} (v : BitVec 3) (hi : decode .profileField v.toNat = .ok i) :
      RowEffect s i (applyProfile v s)
  | sfiField {i : Instr} (v : BitVec 4) (hi : decode .sfiField v.toNat = .ok i) : RowEffect s i (applySfi v s)
  | chanField {i : Instr} (v : BitVec 4) (hi : decode .chanField v.toNat = .ok i) : RowEffect s i (applyChan v s)

/-- The one next state of an outcome that goes on. -/
theorem next_inj {s t : State} (h : (Host.Outcome.next s : Host.Outcome State Fault Refusal) = .next t) : t = s := by
  cases h; rfl

/-- Every row that completes did its family's effect. -/
theorem rowEffect_of_exec {s t : State} {i : Instr} (h : exec i s = .next t) : RowEffect s i t := by
  cases i with
  | readBit byte offset =>
    change execReadBit byte offset s = _ at h
    unfold execReadBit at h
    split at h
    · cases h; exact .readBit _ _ ‹_›
    · cases h
  | readBits byte offset count =>
    change execReadBits byte offset count s = _ at h
    unfold execReadBits at h
    split at h
    · cases h; exact .readBits _ _ _ ‹_›
    · cases h
  | idle | sync | ver | layer | prot | profile | sfi | priv | chan | scan | done | phaseReserved11 | phaseReserved12
  | phaseReserved13 | phaseReserved14 | phaseReserved15 => exact .seq (seqEffect_of_exec rfl h)
  | cmdNop | cmdDecode | cmdScan | cmdRun | cmdClear | cmdReserved5 | cmdReserved6 | cmdReserved7 =>
    exact .cmd (cmdEffect_of_exec rfl h)
  | adtsHeader v l p hh x ssss pp u6 cc u24 => obtain rfl := next_inj h; exact .header ..
  | syncCandidate low => obtain rfl := next_inj h; exact .candidate low
  | scanPattern00 | scanPattern01 | scanPattern10 | scanPattern11 => obtain rfl := next_inj h; exact .pattern _ rfl
  | ver0 | ver1 => obtain rfl := next_inj h; exact .verField _ rfl
  | prot0 | prot1 => obtain rfl := next_inj h; exact .protField _ rfl
  | layer0 | layer1 | layer2 | layer3 => obtain rfl := next_inj h; exact .layerField _ rfl
  | profile0 | profile1 | profile2 | profile3 | profile4 | profile5 | profile6 | profile7 =>
    obtain rfl := next_inj h; exact .profileField _ rfl
  | sfi0 | sfi1 | sfi2 | sfi3 | sfi4 | sfi5 | sfi6 | sfi7 | sfi8 | sfi9 | sfi10 | sfi11 | sfi12 | sfi13 | sfi14
  | sfi15 => obtain rfl := next_inj h; exact .sfiField _ rfl
  | chan0 | chan1 | chan2 | chan3 | chan4 | chan5 | chan6 | chan7 | chan8 | chan9 | chan10 | chan11 | chan12 | chan13
  | chan14 | chan15 => obtain rfl := next_inj h; exact .chanField _ rfl

/-! ### What a completed step has done -/

/-- A phase row is the row of its own code. -/
theorem encode_of_decode_phase {w : Nat} {i : Instr} (h : decode .phase w = .ok i) : encode i = (.phase, w) := by
  change decodePhase w = _ at h
  unfold decodePhase at h
  split at h <;> cases h <;> rfl

/-- A command row is the row of the code in bits 2:0 (R170). -/
theorem encode_of_decode_command {w : Nat} {i : Instr} (h : decode .command w = .ok i) :
    encode i = (.command, w % 8) := by
  have hlt : w % 8 < 8 := Nat.mod_lt w (by decide)
  change decodeCommand w = _ at h
  unfold decodeCommand at h
  generalize w % 8 = c at h hlt ⊢
  interval_cases c <;> cases h <;> rfl

/-- What a step has done when it completes: the sequencer's turn, a command, a row presented, or a move of the host's
own on the state with that move taken off the list. -/
inductive StepEffect (s : State) : State → Prop
  | turn {rest : List HostAct} {i : Instr} {t : State} (hr : rest = s.host ∨ s.host = .turn :: rest)
      (hi : encode i = (.phase, s.phase.toNat)) (he : SeqEffect (s.setHost rest) i t) : StepEffect s t
  | command {v : Word} {rest : List HostAct} {i : Instr} {t : State} (hh : s.host = .wr 0 v :: rest)
      (hi : encode i = (.command, v.toNat % 8)) (he : CmdEffect (s.setHost rest) i t) : StepEffect s t
  | present {tb : Table} {w : Nat} {rest : List HostAct} {i : Instr} {t : State} (hh : s.host = .present tb w :: rest)
      (hi : decode tb w = .ok i) (he : RowEffect (s.setHost rest) i t) : StepEffect s t
  | load {bytes : List Byte} {rest : List HostAct} (hh : s.host = .load bytes :: rest) (hb : isBusy s = false)
      (hl : bytes.length ≤ Config.lenMax) : StepEffect s ((s.setHost rest).setBuf (s.buf.load 0 bytes))
  | write {idx : Nat} {v : Word} {rest : List HostAct} (hh : s.host = .wr idx v :: rest) (hi : idx ≠ 0) :
      StepEffect s (writeReg idx v (s.setHost rest))
  | read {idx : Nat} {rest : List HostAct} (hh : s.host = .rd idx :: rest) :
      StepEffect s ((s.setHost rest).setDataOut (regWord s idx))
  | waited {rest : List HostAct} (hh : s.host = .wait :: rest) (hd : isDone s = true) :
      StepEffect s ((s.setHost rest).setDataOut (statusWord s))
  | reset {rest : List HostAct} (hh : s.host = .reset :: rest) : StepEffect s (resetRegs (s.setHost rest))

/-- A step on a fetched number executes the row it decodes to. -/
theorem step_of_fetch_ok {s s' : State} {tb : Table} {w : Nat} {i : Instr} (hf : fetch s = some (tb, w, s'))
    (hd : decode tb w = .ok i) : step s = exec i s' := by simp [step, hf, hd]

theorem step_of_fetch_error {s s' : State} {tb : Table} {w : Nat} {e : DecodeError}
    (hf : fetch s = some (tb, w, s')) (hd : decode tb w = .error e) : step s = .refused (.undecodable e) := by
  simp [step, hf, hd]

/-- With no number fetched the host's own move is next. -/
theorem step_of_fetch_none {s : State} {a : HostAct} {rest : List HostAct} (hf : fetch s = none)
    (hh : s.host = a :: rest) : step s = hostMove a (s.setHost rest) := by simp [step, hf, hostStep, hh]

/-- A completed step on a fetched number completed the row it decodes to. -/
theorem exec_of_step_next {s s' t : State} {tb : Table} {w : Nat} (hf : fetch s = some (tb, w, s'))
    (h : step s = .next t) : ∃ i, decode tb w = .ok i ∧ exec i s' = .next t := by
  cases hd : decode tb w with
  | ok i => exact ⟨i, rfl, step_of_fetch_ok hf hd ▸ h⟩
  | error e => rw [step_of_fetch_error hf hd] at h; cases h

/-- The move of the host's own that a completed step has made. -/
theorem stepEffect_of_fetch_none {s t : State} (hf : fetch s = none) (h : step s = .next t) : StepEffect s t := by
  cases hh : s.host with
  | nil => simp [fetch, hh] at hf
  | cons a rest =>
    rw [step_of_fetch_none hf hh] at h
    cases a with
    | load bytes =>
      obtain ⟨hb, hl, rfl⟩ := loadBuffer_cases h
      exact .load hh hb hl
    | wr idx v => obtain rfl := next_inj h; exact .write hh (by rintro rfl; simp [fetch, hh] at hf)
    | rd idx => obtain rfl := next_inj h; exact .read hh
    | wait => obtain rfl := next_inj h; exact .waited hh (by simpa [fetch, hh] using hf)
    | turn => simp [fetch, hh] at hf
    | reset => obtain rfl := next_inj h; exact .reset hh
    | present tb w => simp [fetch, hh] at hf

/-- Every completed step did one of the effects. -/
theorem stepEffect_of_step {s t : State} (h : step s = .next t) : StepEffect s t := by
  cases hf : fetch s with
  | none => exact stepEffect_of_fetch_none hf h
  | some f =>
    obtain ⟨tb, w, s'⟩ := f
    obtain ⟨i, hd, he⟩ := exec_of_step_next hf h
    obtain ⟨rfl, rfl, rfl⟩ | ⟨rest, hh, rfl, rfl, rfl⟩ | ⟨v, rest, hh, rfl, rfl, rfl⟩ | ⟨rest, hh, rfl⟩ := fetch_cases hf
    · have hi := encode_of_decode_phase hd
      exact .turn (.inl rfl) hi (seqEffect_of_exec (congrArg Prod.fst hi) he)
    · have hi := encode_of_decode_phase hd
      exact .turn (.inr hh) hi (seqEffect_of_exec (congrArg Prod.fst hi) he)
    · have hi := encode_of_decode_command hd
      exact .command hh hi (cmdEffect_of_exec (congrArg Prod.fst hi) he)
    · exact .present hh hd (rowEffect_of_exec he)

end Sys2Proof.Machine

namespace Sys2Proof.Machine

/-! ### The operations as one update each -/

theorem profMap_setWidth (p : BitVec 2) :
    profMap (p.setWidth 3) = .unknown ∧ p = 0#2 ∨
      profMap (p.setWidth 3) ≠ .unknown ∧ (profMap (p.setWidth 3)).code = p.setWidth 3 ∧ p ≠ 0#2 := by
  revert p; decide

theorem ccMap_setWidth (n : BitVec 3) :
    ccMap (n.setWidth 4) ≠ .reserved ∧ (ccMap (n.setWidth 4)).code = n.setWidth 4 := by
  revert n; decide

/-- R86: the table has an entry for the indices up to 12 and none for 13, 14 and 15. -/
theorem sfTab_cases (i : BitVec 4) : (13 ≤ i.toNat ∧ Config.sfTab[i.toNat]? = none) ∨
    (¬ 13 ≤ i.toNat ∧ ∃ hz, Config.sfTab[i.toNat]? = some hz) := by
  by_cases h : 13 ≤ i.toNat
  · exact .inl ⟨h, List.getElem?_eq_none h⟩
  · exact .inr ⟨h, _, List.getElem?_eq_getElem (Nat.lt_of_not_le h)⟩

theorem syncFound_eq (s : State) : syncFound s = { s with
    syncPos := s.cur, cur := s.cur + 1, fst := { s.fst with sync := .ok }, phase := 2 } := rfl

theorem advance_eq (s : State) : advance s = { s with cur := s.cur + 1 } := rfl

theorem verBits_eq (v : BitVec 1) (s : State) : verBits v s = { s with
    raw := { s.raw with ver := v }, hdr := { s.hdr with ver := v }, fst := { s.fst with ver := .ok }, phase := 3 } := rfl

theorem layerBits_eq (l : BitVec 2) (s : State) : layerBits l s = { s with
    raw := { s.raw with layer := l }, fst := { s.fst with layer := if l = 0#2 then .ok else .invalid },
    err := { s.err with invalidLayer := s.err.invalidLayer || decide (l ≠ 0#2) }, phase := 4 } := by
  by_cases hl : l = 0#2
  · simp [layerBits, applyLayer, hl]; rfl
  · simp [layerBits, applyLayer, hl]; rfl

theorem protBits_eq (p : BitVec 1) (s : State) : protBits p s = { s with
    raw := { s.raw with pa := p }, hdr := { s.hdr with crc := 1 - p }, fst := { s.fst with crc := .ok }, phase := 5 } :=
  rfl

theorem profileTruncated_eq (s : State) : profileTruncated s = { s with
    cur := s.cur + 1, fst := { s.fst with prof := .unread }, err := { s.err with truncated := true }, phase := 6 } := rfl

theorem profileBits_eq (p : BitVec 2) (s : State) : profileBits p s = { s with
    cur := s.cur + 1, raw := { s.raw with prof := p }, hdr := { s.hdr with profile := p.setWidth 3 },
    fst := { s.fst with prof := if p = 0#2 then .invalid else .ok },
    err := { s.err with invalidProfile := s.err.invalidProfile || decide (p = 0#2) }, phase := 6 } := by
  obtain ⟨_, rfl⟩ | ⟨hm, hc, hp⟩ := profMap_setWidth p
  · simp [profileBits, applyProfile, profMap]; rfl
  · simp [profileBits, applyProfile, hm, hc, hp]; rfl

theorem sfiTruncated_eq (s : State) : sfiTruncated s = { s with
    fst := { s.fst with sf := .unread }, err := { s.err with truncated := true }, phase := 7 } := rfl

theorem sfiBits_eq (i : BitVec 4) (s : State) : sfiBits i s = { s with
    raw := { s.raw with sfi := i }, sfHz := (Config.sfTab[i.toNat]?).getD 0,
    fst := { s.fst with sf := if 13 ≤ i.toNat then .invalid else .ok },
    err := { s.err with invalidSamplingFrequency := s.err.invalidSamplingFrequency || decide (13 ≤ i.toNat) },
    phase := 7 } := by
  obtain ⟨hi, hm⟩ | ⟨hi, hz, hm⟩ := sfTab_cases i
  · simp [sfiBits, applySfi, sfMap, hm, hi]; rfl
  · simp [sfiBits, applySfi, sfMap, hm, hi]; rfl

/-- R139, in one update. -/
theorem decoderExit_eq (s : State) : decoderExit s = { s with
    scanp := if s.mode = Mode.run then ⟨s.hdr.ver, s.hdr.crc⟩ else s.scanp,
    si := if s.mode = Mode.run then 0 else s.si, count := if s.mode = Mode.run then 0 else s.count,
    phase := if s.mode = Mode.run then Phase.scan else Phase.done } := by
  by_cases hm : s.mode = Mode.run
  · simp only [decoderExit, if_pos hm]; rfl
  · simp only [decoderExit, if_neg hm]; rfl

/-- R138, when `hb3` exists: the channel value is always one of the eight layouts. -/
theorem chanBits_eq (n : BitVec 3) (s : State) : chanBits n s = decoderExit { s with
    cur := s.cur + 1, raw := { s.raw with cc := n }, hdr := { s.hdr with chan := n.setWidth 4 },
    fst := { s.fst with cc := .ok } } := by
  obtain ⟨hm, hc⟩ := ccMap_setWidth n
  rw [chanBits, applyChan, if_neg hm, hc]
  rfl

theorem chanTruncated_eq (s : State) : chanTruncated s = decoderExit { s with
    cur := s.cur + 1, fst := { s.fst with cc := .unread }, err := { s.err with truncated := true } } := rfl

theorem syncFail_eq (s : State) : syncFail s = { s with
    err := { s.err with syncNotFound := true },
    fst := ⟨.invalid, .unread, .unread, .unread, .unread, .unread, .unread,
      if s.mode = Mode.run then .unread else s.fst.scan⟩,
    phase := Phase.done } := by
  by_cases hm : s.mode = Mode.run
  · simp only [syncFail, if_pos hm]; rfl
  · simp only [syncFail, if_neg hm]; rfl

theorem scanPair_eq (b0 b1 : Byte) (s : State) : scanPair b0 b1 s = { s with
    si := s.si + 1, count := if isPattern b0 b1 s.scanp then s.count + 1 else s.count } := by
  by_cases h : isPattern b0 b1 s.scanp
  · simp only [scanPair, if_pos h]; rfl
  · simp only [scanPair, if_neg h]; rfl

theorem scanEnd_eq (s : State) : scanEnd s = { s with fst := { s.fst with scan := .ok }, phase := Phase.done } := rfl

end Sys2Proof.Machine

namespace Sys2Proof.Machine

/-! ### The invariant, clause by clause -/

/-- What no step of a run changes: the parameters, MODE, the buffer and the host's list. -/
structure SameRun (s t : State) : Prop where
  len : t.len = s.len
  srcOk : t.srcOk = s.srcOk
  mode : t.mode = s.mode
  buf : t.buf = s.buf
  host : t.host = s.host

/-- A step of a run keeps `ParamInv` if it stays among the legal phases, never goes back into the decoder, and enters the
scanner in a SCAN or a RUN only. -/
theorem ParamInv.of_sameRun {s t : State} (h : ParamInv s) (hr : SameRun s t) (hb : isBusy s = true)
    (hp : t.phase.toNat ≤ 10) (hd : t.phase.toNat ≤ 8 → decoding s)
    (hs : t.phase = Phase.scan → s.mode = Mode.scan ∨ s.mode = Mode.run) : ParamInv t where
  phase_legal := hp
  host_moves := hr.host ▸ h.host_moves
  busy_params _ := hr.srcOk ▸ hr.len ▸ h.busy_params hb
  decoding_mode hdt := hr.mode ▸ hr.len ▸ h.decoding_mode (hd hdt.2)
  scanning_mode hst := hr.mode ▸ hs hst

theorem isBusy_iff (s : State) : isBusy s = true ↔ 1 ≤ s.phase.toNat ∧ s.phase.toNat ≤ 9 := by
  simp [isBusy]

theorem phase_eq_iff (s : State) (p : BitVec 4) : s.phase = p ↔ s.phase.toNat = p.toNat := BitVec.toNat_inj.symm

/-- In the decoder a step keeps `ParamInv` if it goes to another of its phases or to DONE, or in a RUN to SCAN. -/
theorem ParamInv.of_decoding {s t : State} (h : ParamInv s) (hr : SameRun s t) (hd : decoding s)
    (hp : t.phase.toNat ≤ 10) (hs : t.phase = Phase.scan → s.mode = Mode.run) : ParamInv t :=
  h.of_sameRun hr ((isBusy_iff s).2 ⟨hd.1, Nat.le_trans hd.2 (by decide)⟩) hp (fun _ => hd) (fun hst => .inr (hs hst))

/-- What `SeqInv` says in phase `n` of the header, 2 to 8. -/
structure HeaderInv (n : Nat) (s : State) : Prop where
  found : candidateAt s s.syncPos.toNat = true
  first : ∀ k < s.syncPos.toNat, candidateAt s k = false
  cur : s.cur.toNat = s.syncPos.toNat + (if n ≤ 5 then 1 else 2)
  si : s.si = 0
  count : s.count = 0
  sync : s.fst.sync = .ok
  ver : if 3 ≤ n then s.fst.ver = .ok else s.fst.ver = .none
  layer : if 4 ≤ n then s.fst.layer = .ok ∨ s.fst.layer = .invalid else s.fst.layer = .none
  crc : if 5 ≤ n then s.fst.crc = .ok else s.fst.crc = .none
  prof : if n ≤ 5 then s.fst.prof = .none else s.fst.prof ≠ .none
  sf : if n ≤ 6 then s.fst.sf = .none else s.fst.sf ≠ .none
  cc : s.fst.cc = .none
  scan : s.fst.scan = .none

theorem SeqInv.header {s : State} {n : Nat} (h : SeqInv s) (hn : s.phase.toNat = n) (h2 : 2 ≤ n) (h8 : n ≤ 8) :
    HeaderInv n s := by
  subst hn
  obtain ⟨hfound, hfirst, hcur, hsi, hcount⟩ := h.found ⟨h2, h8⟩
  obtain ⟨hsync, hver, hlayer, hcrc, hprof, hsf, hcc, hscan⟩ := h.progress ⟨h2, h8⟩
  refine ⟨hfound, hfirst, hcur, hsi, hcount, hsync, ?_, hlayer, ?_, ?_, ?_, hcc, hscan⟩
  · split_ifs at hver ⊢ <;> exact hver
  · split_ifs at hcrc ⊢ <;> exact hcrc
  · split_ifs with h5 <;> simp only [ne_eq, hprof, h5, not_false_eq_true]
  · split_ifs with h6 <;> simp only [ne_eq, hsf, h6, not_false_eq_true]

theorem HeaderInv.seqInv {s : State} {n : Nat} (h : HeaderInv n s) (hn : s.phase.toNat = n) (h2 : 2 ≤ n)
    (h8 : n ≤ 8) : SeqInv s := by
  subst hn
  obtain ⟨hfound, hfirst, hcur, hsi, hcount, hsync, hver, hlayer, hcrc, hprof, hsf, hcc, hscan⟩ := h
  exact {
    idle := fun hi => by simp [hi] at h2
    searching := fun hs => by simp [hs] at h2
    found := fun _ => ⟨hfound, hfirst, hcur, hsi, hcount⟩
    progress := fun _ => ⟨hsync, by split_ifs at hver ⊢ <;> exact hver, hlayer,
      by split_ifs at hcrc ⊢ <;> exact hcrc, by split_ifs at hprof with h5 <;> simp [hprof, h5],
      by split_ifs at hsf with h6 <;> simp [hsf, h6], hcc, hscan⟩
    scanning := fun hs => by simp [hs] at h8
    runScan := fun hs => by simp [hs] at h8
    atRest := fun hd => absurd ⟨Nat.le_of_succ_le h2, h8⟩ hd }

/-- A step from phase `n` of the decoder to the next phase of the header keeps the invariant if the report's
clauses and what that next phase asks hold after it. -/
theorem runInv_of_header {s t : State} {n : Nat} (h : RunInv s) (hn : s.phase.toNat = n) (ht : t.phase.toNat = n + 1)
    (h1 : 1 ≤ n) (h7 : n ≤ 7) (hr : SameRun s t) (hrep : ReportInv t) (hh : HeaderInv (n + 1) t) : RunInv t where
  param := h.param.of_decoding hr ⟨by omega, by omega⟩ (by omega) (fun hs => by rw [hs] at ht; simp at ht; omega)
  report := hrep
  seq := hh.seqInv ht (by omega) (by omega)

/-- The statuses of a run that is over (R42 (c)). -/
def AtRest (f : Fst) : Prop :=
  (f.ver = .ok ↔ f.sync = .ok) ∧ ((f.layer = .ok ∨ f.layer = .invalid) ↔ f.sync = .ok) ∧ (f.crc = .ok ↔ f.sync = .ok)

/-- In IDLE `SeqInv` asks for the reset values alone (R171). -/
theorem SeqInv.of_idle {s : State} (hp : s.phase = Phase.idle) (hm : s.mode = Mode.none) (hc : s.cur = 0)
    (hclear : cleared s) : SeqInv s where
  idle _ := ⟨hm, hc, hclear⟩
  searching hs := by simp [hp] at hs
  found hf := by simp [hp] at hf
  progress hf := by simp [hp] at hf
  scanning hs := by simp [hp] at hs
  runScan hs := by simp [hp] at hs
  atRest _ := by
    obtain ⟨-, -, -, -, -, -, hfst, -⟩ := hclear
    simp [hfst, State.reset]

/-- In SYNC `SeqInv` asks for the search's progress alone (R131). -/
theorem SeqInv.of_sync {s : State} (hp : s.phase = Phase.sync) (hclear : cleared s)
    (hcur : s.cur.toNat + 1 ≤ s.len.toNat) (hfirst : ∀ k < s.cur.toNat, candidateAt s k = false) : SeqInv s where
  idle hi := by simp [hp] at hi
  searching _ := ⟨hclear, hcur, hfirst⟩
  found hf := by simp [hp] at hf
  progress hf := by simp [hp] at hf
  scanning hs := by simp [hp] at hs
  runScan hs := by simp [hp] at hs
  atRest hd := by simp [hp] at hd

/-- In DONE `SeqInv` asks for the statuses at rest alone. -/
theorem SeqInv.of_done {s : State} (hp : s.phase = Phase.done) (hrest : AtRest s.fst) : SeqInv s where
  idle hi := by simp [hp] at hi
  searching hs := by simp [hp] at hs
  found hf := by simp [hp] at hf
  progress hf := by simp [hp] at hf
  scanning hs := by simp [hp] at hs
  runScan hs := by simp [hp] at hs
  atRest _ := hrest

/-- In SCAN `SeqInv` asks for the scan's progress, in a RUN for the header's position, and for the statuses at rest. -/
theorem SeqInv.of_scan {s : State} (hp : s.phase = Phase.scan) (hscan : s.fst.scan = .none)
    (hsi : s.si.toNat ≤ s.len.toNat - 1) (hcount : s.count.toNat = matchesBelow s s.scanp s.si.toNat)
    (hrun : s.mode = Mode.run → candidateAt s s.syncPos.toNat = true ∧ s.cur.toNat = s.syncPos.toNat + 3 ∧
      s.scanp = ⟨s.hdr.ver, s.hdr.crc⟩ ∧ s.fst.sync = .ok)
    (hrest : AtRest s.fst) : SeqInv s where
  idle hi := by simp [hp] at hi
  searching hs := by simp [hp] at hs
  found hf := by simp [hp] at hf
  progress hf := by simp [hp] at hf
  scanning _ := ⟨hscan, hsi, hcount⟩
  runScan _ := hrun
  atRest _ := hrest

/-- A 32-bit register that is below a representable value does not wrap when it rises by one. -/
theorem toNat_add_one {a : Word} {n : Nat} (h : a.toNat < n) (hn : n < 2 ^ 32) : (a + 1).toNat = a.toNat + 1 := by
  rw [BitVec.toNat_add]; exact Nat.mod_eq_of_lt (Nat.lt_of_le_of_lt h hn)

/-! ### The decoder's steps keep the invariant -/

section decoder
variable {s : State}

theorem decoding_of_phase {n : Nat} (hp : s.phase.toNat = n) (h1 : 1 ≤ n) (h8 : n ≤ 8) : decoding s :=
  ⟨by omega, by omega⟩

/-- In a cleared state nothing was read and no flag is set. -/
theorem ReportInv.of_cleared (h : cleared s) : ReportInv s := by
  obtain ⟨-, -, -, hhdr, hsf, hraw, hfst, herr⟩ := h
  constructor <;> simp [hhdr, hsf, hraw, hfst, herr, State.reset]

/-- While searching, an accepted candidate is the first one (R140). -/
theorem inv_syncFound (h : RunInv s) (hp : s.phase = Phase.sync) (hc : candidateAt s s.cur.toNat = true) :
    RunInv (syncFound s) := by
  obtain ⟨hclear, hlen, hfirst⟩ := h.seq.searching hp
  obtain ⟨-, hsi, hct, hhdr, hsf, hraw, hfst, herr⟩ := hclear
  have hrep : ReportInv (syncFound s) := by
    constructor <;> simp [syncFound_eq, hhdr, hsf, hraw, hfst, herr, State.reset]
  have hstat : s.fst.ver = .none ∧ s.fst.layer = .none ∧ s.fst.crc = .none ∧ s.fst.prof = .none ∧ s.fst.sf = .none ∧
      s.fst.cc = .none ∧ s.fst.scan = .none := by simp [hfst, State.reset]
  obtain ⟨hver, hlayer, hcrc, hprof, hsfs, hcc, hscan⟩ := hstat
  rw [syncFound_eq] at hrep ⊢
  exact runInv_of_header h ((phase_eq_iff _ _).1 hp) rfl (by decide) (by decide) ⟨rfl, rfl, rfl, rfl, rfl⟩ hrep
    ⟨hc, hfirst, toNat_add_one hlen s.len.isLt, hsi, hct, rfl, hver, hlayer, hcrc, hprof, hsfs, hcc, hscan⟩

/-- While searching, a pair passed over is no candidate, and another byte is left (R131). -/
theorem inv_syncPass (h : RunInv s) (hp : s.phase = Phase.sync) (hl : s.cur.toNat + 1 < s.len.toNat)
    (hc : candidateAt s s.cur.toNat = false) : RunInv (advance s) := by
  obtain ⟨hclear, hlen, hfirst⟩ := h.seq.searching hp
  have hcur : (s.cur + 1).toNat = s.cur.toNat + 1 := toNat_add_one hlen s.len.isLt
  have hfirst' : ∀ k < (s.cur + 1).toNat, candidateAt s k = false := by
    intro k hk
    rw [hcur, Nat.lt_succ_iff_lt_or_eq] at hk
    exact hk.elim (hfirst k) (fun hk => hk ▸ hc)
  rw [advance_eq]
  exact {
    param := h.param.of_decoding ⟨rfl, rfl, rfl, rfl, rfl⟩ (by simp [hp]) h.param.phase_legal
      (by simp [hp])
    report := { h.report with }
    seq := .of_sync hp hclear (Nat.succ_le_of_lt (hcur ▸ hl)) hfirst' }

theorem inv_syncFail (h : RunInv s) (hp : s.phase = Phase.sync) : RunInv (syncFail s) := by
  obtain ⟨⟨-, -, -, hhdr, hsf, hraw, hfst, herr⟩, -, -⟩ := h.seq.searching hp
  rw [syncFail_eq]
  exact {
    param := h.param.of_decoding ⟨rfl, rfl, rfl, rfl, rfl⟩ (by simp [hp]) (by simp) (by simp)
    report := by
      constructor <;> simp [hhdr, hsf, hraw, hfst, herr, State.reset]
      split <;> simp
    seq := .of_done rfl (by simp [AtRest]) }

theorem inv_verBits (h : RunInv s) (hp : s.phase.toNat = 2) (v : BitVec 1) : RunInv (verBits v s) := by
  rw [verBits_eq]
  exact runInv_of_header h hp rfl (by decide) (by decide) ⟨rfl, rfl, rfl, rfl, rfl⟩
    { h.report with ver := .inl ⟨rfl, rfl⟩ }
    { h.seq.header hp (by decide) (by decide) with ver := rfl }

theorem inv_layerBits (h : RunInv s) (hp : s.phase.toNat = 3) (l : BitVec 2) : RunInv (layerBits l s) := by
  have hh := h.seq.header hp (by decide) (by decide)
  have hflag : s.err.invalidLayer = false := by
    rw [Bool.eq_false_iff, ne_eq, h.report.invalidLayer, show s.fst.layer = .none from hh.layer]; decide
  rw [layerBits_eq]
  refine runInv_of_header h hp rfl (by decide) (by decide) ⟨rfl, rfl, rfl, rfl, rfl⟩
    { h.report with layer := ?_, invalidLayer := ?_ } { hh with layer := ?_ }
  -- each clause, for the one layer value that is valid and for the three that are not
  all_goals by_cases hl : l = 0#2 <;> simp [hl, hflag]

theorem inv_protBits (h : RunInv s) (hp : s.phase.toNat = 4) (p : BitVec 1) : RunInv (protBits p s) := by
  rw [protBits_eq]
  exact runInv_of_header h hp rfl (by decide) (by decide) ⟨rfl, rfl, rfl, rfl, rfl⟩
    { h.report with crc := .inl ⟨rfl, rfl⟩ }
    { h.seq.header hp (by decide) (by decide) with crc := rfl }

end decoder

end Sys2Proof.Machine

namespace Sys2Proof.Machine

section decoder
variable {s : State}

/-- In a header CUR stays at or below LEN + 1, so it does not wrap when it moves on (R45, R142). -/
theorem HeaderInv.cur_add_one {n : Nat} (hh : HeaderInv n s) (hl : s.len ≠ 4294967295#32) :
    (s.cur + 1).toNat = s.syncPos.toNat + (if n ≤ 5 then 2 else 3) := by
  have hfound := ((candidateAt_iff _ _).1 hh.found).1
  have hcur := hh.cur
  have hlen : s.len.toNat < 4294967295 := by
    have := s.len.isLt
    have : s.len.toNat ≠ 4294967295 := fun he => hl (BitVec.eq_of_toNat_eq he)
    omega
  rw [toNat_add_one (n := 4294967295) (by split_ifs at hcur <;> omega) (by decide), hcur]
  split_ifs <;> rfl

theorem len_ne_of_decoding (h : RunInv s) (hd : decoding s) : s.len ≠ 4294967295#32 :=
  (h.param.busy_params ((isBusy_iff s).2 ⟨hd.1, Nat.le_trans hd.2 (by decide)⟩)).2

theorem inv_profileBits (h : RunInv s) (hp : s.phase.toNat = 5) (p : BitVec 2) : RunInv (profileBits p s) := by
  have hd := decoding_of_phase hp (by decide) (by decide)
  have hh := h.seq.header hp (by decide) (by decide)
  have hnone : s.fst.prof = .none := hh.prof
  have hflag : s.err.invalidProfile = false := by
    rw [Bool.eq_false_iff, ne_eq, h.report.invalidProfile, hnone]; decide
  have htr := h.report.truncated
  simp only [hnone] at htr
  rw [profileBits_eq]
  refine runInv_of_header h hp rfl (by decide) (by decide) ⟨rfl, rfl, rfl, rfl, rfl⟩
    { h.report with prof := ?_, invalidProfile := ?_, truncated := ?_ }
    { hh with cur := hh.cur_add_one (len_ne_of_decoding h hd), prof := ?_ }
  -- each clause, for the raw value whose member is Unknown and for the three others
  all_goals by_cases hz : p = 0#2 <;> simp [hz, hflag, htr]

theorem inv_profileTruncated (h : RunInv s) (hp : s.phase.toNat = 5) : RunInv (profileTruncated s) := by
  have hd := decoding_of_phase hp (by decide) (by decide)
  have hh := h.seq.header hp (by decide) (by decide)
  have hprof := h.report.prof
  have hflag := h.report.invalidProfile
  simp only [show s.fst.prof = .none from hh.prof] at hprof hflag
  rw [profileTruncated_eq]
  exact runInv_of_header h hp rfl (by decide) (by decide) ⟨rfl, rfl, rfl, rfl, rfl⟩
    { h.report with
      prof := by simpa using hprof
      invalidProfile := by simpa using hflag
      truncated := by simp [hh.sync] }
    { hh with cur := hh.cur_add_one (len_ne_of_decoding h hd), prof := by simp }

theorem inv_sfiBits (h : RunInv s) (hp : s.phase.toNat = 6) (i : BitVec 4) : RunInv (sfiBits i s) := by
  have hh := h.seq.header hp (by decide) (by decide)
  have hnone : s.fst.sf = .none := hh.sf
  have hflag : s.err.invalidSamplingFrequency = false := by
    rw [Bool.eq_false_iff, ne_eq, h.report.invalidSamplingFrequency, hnone]; decide
  have htr := h.report.truncated
  simp only [hnone] at htr
  rw [sfiBits_eq]
  refine runInv_of_header h hp rfl (by decide) (by decide) ⟨rfl, rfl, rfl, rfl, rfl⟩
    { h.report with sf := ?_, invalidSamplingFrequency := ?_, truncated := ?_ } { hh with sf := ?_ }
  -- each clause, for an index that the table refuses and for one that it has
  all_goals obtain ⟨hi, htab⟩ | ⟨hi, hz, htab⟩ := sfTab_cases i <;> simp [hflag, htr, htab, hi]

theorem inv_sfiTruncated (h : RunInv s) (hp : s.phase.toNat = 6) : RunInv (sfiTruncated s) := by
  have hh := h.seq.header hp (by decide) (by decide)
  have hsf := h.report.sf
  have hflag := h.report.invalidSamplingFrequency
  simp only [show s.fst.sf = .none from hh.sf] at hsf hflag
  rw [sfiTruncated_eq]
  exact runInv_of_header h hp rfl (by decide) (by decide) ⟨rfl, rfl, rfl, rfl, rfl⟩
    { h.report with
      sf := by simpa using hsf
      invalidSamplingFrequency := by simpa using hflag
      truncated := by simp [hh.sync] }
    { hh with sf := by simp }

theorem inv_priv (h : RunInv s) (hp : s.phase.toNat = 7) : RunInv (s.setPhase Phase.chan) :=
  runInv_of_header h hp rfl (by decide) (by decide) ⟨rfl, rfl, rfl, rfl, rfl⟩
    { h.report with } { h.seq.header hp (by decide) (by decide) with }

/-- R139: the exit of the decoder keeps the invariant, from the state that CHAN leaves it with: CUR one on, the channel's
status written, and the report in order. -/
theorem inv_decoderExit {u : State} (h : RunInv s) (hp : s.phase.toNat = 8) (hr : SameRun s u) (hrep : ReportInv u)
    (hcur : u.cur = s.cur + 1) (hpos : u.syncPos = s.syncPos) (hfst : u.fst = { s.fst with cc := u.fst.cc }) :
    RunInv (decoderExit u) := by
  have hd := decoding_of_phase hp (by decide) (by decide)
  have hh := h.seq.header hp (by decide) (by decide)
  have hrest : AtRest u.fst := by
    rw [hfst]
    simp only [AtRest, hh.sync, show s.fst.ver = .ok from hh.ver, show s.fst.crc = .ok from hh.crc, iff_true, true_and,
      and_true]
    exact hh.layer
  rw [decoderExit_eq]
  by_cases hm : u.mode = Mode.run
  · simp only [if_pos hm]
    exact {
      param := h.param.of_decoding ⟨hr.len, hr.srcOk, hr.mode, hr.buf, hr.host⟩ hd (by simp) (fun _ => hr.mode ▸ hm)
      report := { hrep with }
      seq := by
        refine .of_scan rfl ?_ (Nat.zero_le _) rfl (fun _ => ⟨?_, ?_, rfl, ?_⟩) hrest
        · rw [hfst]; exact hh.scan
        · rw [hpos]; exact (congrFun (candidateAt_congr hr.buf hr.len) _).trans hh.found
        · rw [hpos, hcur]; exact hh.cur_add_one (len_ne_of_decoding h hd)
        · rw [hfst]; exact hh.sync }
  · simp only [if_neg hm]
    exact {
      param := h.param.of_decoding ⟨hr.len, hr.srcOk, hr.mode, hr.buf, hr.host⟩ hd (by simp) (by simp)
      report := { hrep with }
      seq := .of_done rfl hrest }

theorem inv_chanBits (h : RunInv s) (hp : s.phase.toNat = 8) (n : BitVec 3) : RunInv (chanBits n s) := by
  have htr := h.report.truncated
  simp only [(h.seq.header hp (by decide) (by decide)).cc] at htr
  rw [chanBits_eq]
  exact inv_decoderExit h hp ⟨rfl, rfl, rfl, rfl, rfl⟩
    { h.report with cc := .inl ⟨rfl, rfl⟩, truncated := by simpa using htr } rfl rfl rfl

theorem inv_chanTruncated (h : RunInv s) (hp : s.phase.toNat = 8) : RunInv (chanTruncated s) := by
  have hh := h.seq.header hp (by decide) (by decide)
  have hcc := h.report.cc
  simp only [hh.cc] at hcc
  rw [chanTruncated_eq]
  exact inv_decoderExit h hp ⟨rfl, rfl, rfl, rfl, rfl⟩
    { h.report with cc := by simpa using hcc, truncated := by simp [hh.sync] } rfl rfl rfl

end decoder

/-! ### The scanner's steps keep the invariant -/

section scanner
variable {s : State}

theorem matchesBelow_le (s : State) (p : Scanp) (n : Nat) : matchesBelow s p n ≤ n :=
  (List.countP_le_length).trans (List.length_range).le

/-- A step of the scanner keeps `ParamInv` if it stays in SCAN or goes to DONE. -/
theorem ParamInv.of_scanning {t : State} (h : ParamInv s) (hr : SameRun s t) (hp : s.phase = Phase.scan)
    (ht : t.phase = Phase.scan ∨ t.phase = Phase.done) : ParamInv t :=
  h.of_sameRun hr ((isBusy_iff s).2 (by simp [hp])) (by obtain ht | ht := ht <;> simp [ht])
    (by obtain ht | ht := ht <;> simp [ht]) (fun _ => h.scanning_mode hp)

/-- R162: a pair scanned is counted exactly if it matches, so COUNT stays the number of matches below SI. -/
theorem inv_scanPair (h : RunInv s) (hp : s.phase = Phase.scan) (hl : s.si.toNat + 1 < s.len.toNat) :
    RunInv (scanPair (s.bufByte s.si.toNat) (s.bufByte (s.si.toNat + 1)) s) := by
  obtain ⟨hscan, -, hcount⟩ := h.seq.scanning hp
  have hsi : (s.si + 1).toNat = s.si.toNat + 1 := toNat_add_one (Nat.lt_of_succ_lt hl) s.len.isLt
  have hct : (s.count + 1).toNat = s.count.toNat + 1 :=
    toNat_add_one (Nat.lt_of_le_of_lt (hcount ▸ matchesBelow_le ..) (Nat.lt_of_succ_lt hl)) s.len.isLt
  have hmatch := patternAt_of_lt s.scanp hl
  rw [scanPair_eq]
  exact {
    param := h.param.of_scanning ⟨rfl, rfl, rfl, rfl, rfl⟩ hp (.inl hp)
    report := { h.report with }
    seq := by
      refine .of_scan hp hscan ?_ ?_ (h.seq.runScan hp) (h.seq.atRest (by simp [hp]))
      · simp only [hsi]; omega
      · change _ = matchesBelow s s.scanp (s.si + 1).toNat
        rw [hsi, matchesBelow_succ, hmatch, ← hcount]
        dsimp only
        split
        · exact hct
        · rfl }

theorem inv_scanEnd (h : RunInv s) (hp : s.phase = Phase.scan) : RunInv (scanEnd s) := by
  rw [scanEnd_eq]
  exact {
    param := h.param.of_scanning ⟨rfl, rfl, rfl, rfl, rfl⟩ hp (.inr rfl)
    report := { h.report with scan := by simp }
    seq := .of_done rfl (h.seq.atRest (by simp [hp])) }

end scanner

/-! ### Every turn of the sequencer keeps the invariant -/

theorem phase_of_encode {s : State} {i : Instr} {n : Nat} (hi : encode i = (.phase, s.phase.toNat))
    (hn : (encode i).2 = n) : s.phase.toNat = n := hn ▸ (congrArg Prod.snd hi).symm

theorem inv_seqEffect {s t : State} {i : Instr} (h : RunInv s) (hi : encode i = (.phase, s.phase.toNat))
    (he : SeqEffect s i t) : RunInv t := by
  have hp : ∀ n, (encode i).2 = n → s.phase.toNat = n := fun n hn => phase_of_encode hi hn
  cases he with
  | idle => exact h
  | done => exact h
  | syncFound hc => exact inv_syncFound h ((phase_eq_iff _ _).2 (hp 1 rfl)) hc
  | syncPass hl hc => exact inv_syncPass h ((phase_eq_iff _ _).2 (hp 1 rfl)) hl hc
  | syncFail => exact inv_syncFail h ((phase_eq_iff _ _).2 (hp 1 rfl))
  | ver => exact inv_verBits h (hp 2 rfl) _
  | layer => exact inv_layerBits h (hp 3 rfl) _
  | prot => exact inv_protBits h (hp 4 rfl) _
  | profile => exact inv_profileBits h (hp 5 rfl) _
  | profileTruncated => exact inv_profileTruncated h (hp 5 rfl)
  | sfi => exact inv_sfiBits h (hp 6 rfl) _
  | sfiTruncated => exact inv_sfiTruncated h (hp 6 rfl)
  | priv => exact inv_priv h (hp 7 rfl)
  | chan => exact inv_chanBits h (hp 8 rfl) _
  | chanTruncated => exact inv_chanTruncated h (hp 8 rfl)
  | scanPair hl => exact inv_scanPair h ((phase_eq_iff _ _).2 (hp 9 rfl)) hl
  | scanEnd => exact inv_scanEnd h ((phase_eq_iff _ _).2 (hp 9 rfl))

end Sys2Proof.Machine

namespace Sys2Proof.Machine

/-! ### Commands and the host's moves keep the invariant -/

section commands
variable {s : State}

/-- R170: a command is accepted in IDLE and in DONE. -/
theorem not_decoding_of_not_busy (hb : isBusy s = false) : ¬ decoding s := by
  intro hd
  rw [(isBusy_iff s).2 ⟨hd.1, Nat.le_trans hd.2 (by decide)⟩] at hb
  cases hb

/-- A command keeps `ParamInv` if it starts a run only with a readable source and a legal length. -/
theorem ParamInv.of_command {t : State} (h : ParamInv s) (hlen : t.len = s.len) (hsrcOk : t.srcOk = s.srcOk)
    (hhost : t.host = s.host) (hl : s.len ≠ 4294967295#32) (ht : t.phase = Phase.idle ∨ t.phase = Phase.done ∨
      (t.phase = Phase.sync ∧ s.srcOk = 1 ∧ s.len ≠ 0#32 ∧ (t.mode = Mode.decode ∨ t.mode = Mode.run)) ∨
      (t.phase = Phase.scan ∧ s.srcOk = 1 ∧ t.mode = Mode.scan)) : ParamInv t := by
  have hmoves := hhost ▸ h.host_moves
  obtain ht | ht | ⟨ht, hsrc, hpos, hm⟩ | ⟨ht, hsrc, hm⟩ := ht
  · exact ⟨by simp [ht], hmoves, by simp [isBusy, ht], by simp [ht], by simp [ht]⟩
  · exact ⟨by simp [ht], hmoves, by simp [isBusy, ht], by simp [ht], by simp [ht]⟩
  · refine ⟨by simp [ht], hmoves, fun _ => ⟨hsrcOk ▸ hsrc, hlen ▸ hl⟩, fun _ => ⟨hm, ?_⟩, by simp [ht]⟩
    rw [hlen]
    exact Nat.pos_of_ne_zero fun h0 => hpos (BitVec.eq_of_toNat_eq h0)
  · exact ⟨by simp [ht], hmoves, fun _ => ⟨hsrcOk ▸ hsrc, hlen ▸ hl⟩, by simp [ht], fun _ => .inl hm⟩

theorem srcOk_eq_one {b : BitVec 1} (h : b ≠ 0#1) : b = 1 := by revert b; decide

theorem clearResults_eq (s : State) : clearResults s = { s with
    cur := 0, syncPos := 0, si := 0, count := 0, hdr := State.reset.hdr, sfHz := 0, raw := State.reset.raw,
    fst := State.reset.fst, err := State.reset.err } := by
  simp only [clearResults, State.setCur, State.setSyncPos, State.setSi, State.setCount, State.setHdr, State.setSfHz,
    State.setRaw, State.setFst, State.setErr]

/-- `DECODE` and `RUN` in one update (R172, R174); `fatal` is the status of the scan in the two fatal cases. -/
def decodeStarted (mode : BitVec 2) (fatal : Status) (s : State) : State := { s with
  mode := mode, cur := 0, syncPos := 0, si := 0, count := 0, hdr := State.reset.hdr, sfHz := 0, raw := State.reset.raw,
  fst := { State.reset.fst with scan := if s.srcOk = 0#1 ∨ s.len = 0#32 then fatal else .none },
  err := { State.reset.err with
    sourceUnavailable := decide (s.srcOk = 0#1), emptyInput := decide (s.srcOk ≠ 0#1 ∧ s.len = 0#32) },
  phase := if s.srcOk = 0#1 ∨ s.len = 0#32 then Phase.done else Phase.sync }

/-- The three ways a run with the decoder starts, given what goes with a fatal error besides its flag. -/
theorem startDecode_eq {fatal : State → State} {st : Status} (mode : BitVec 2)
    (hf : ∀ u : State, u.fst.scan = .none → fatal u = { u with fst := { u.fst with scan := st } }) (s : State) :
    startDecode fatal (clearResults (s.setMode mode)) = decodeStarted mode st s := by
  rw [clearResults_eq]
  by_cases h1 : s.srcOk = 0#1
  · simp [startDecode, decodeStarted, h1, hf, raise, State.setMode, State.setErr, State.setPhase, State.reset, Err.set]
  · by_cases h2 : s.len = 0#32
    · simp [startDecode, decodeStarted, h1, h2, hf, raise, State.setMode, State.setErr, State.setPhase, State.reset,
        Err.set]
    · simp [startDecode, decodeStarted, h1, h2, State.setMode, State.setPhase, State.reset]

theorem startDecodeOnly_eq (s : State) : startDecodeOnly s = decodeStarted Mode.decode .none s :=
  startDecode_eq _ (fun u hu => by rw [← hu]; rfl) s

theorem startRun_eq (s : State) : startRun s = decodeStarted Mode.run .unread s :=
  startDecode_eq _ (fun _ _ => rfl) s

theorem startScan_eq (s : State) : startScan s = { s with
    mode := Mode.scan, si := 0, count := 0, fst := { s.fst with scan := if s.srcOk = 0#1 then .unread else .none },
    err := { s.err with sourceUnavailable := s.err.sourceUnavailable || decide (s.srcOk = 0#1) },
    phase := if s.srcOk = 0#1 then Phase.done else Phase.scan } := by
  by_cases h1 : s.srcOk = 0#1
  · simp [startScan, scanUnread, raise, h1, State.setMode, State.setSi, State.setCount, State.setFst, State.setErr,
      State.setPhase, Err.set]
  · simp [startScan, h1, State.setMode, State.setSi, State.setCount, State.setFst, State.setPhase]

theorem forget_eq (s : State) : forget s = { s with
    mode := Mode.none, cur := 0, syncPos := 0, si := 0, count := 0, hdr := State.reset.hdr, sfHz := 0,
    raw := State.reset.raw, fst := State.reset.fst, err := State.reset.err, phase := Phase.idle } := by
  rw [forget, clearResults_eq]; rfl

/-- R172, R174: a DECODE or a RUN starts the search in a cleared state, or ends at once. -/
theorem inv_decodeStarted (h : RunInv s) (hl : s.len ≠ 4294967295#32) {mode : BitVec 2}
    (hm : mode = Mode.decode ∨ mode = Mode.run) {fatal : Status} (hf : fatal ≠ .invalid) :
    RunInv (decodeStarted mode fatal s) := by
  have hrep : ReportInv (decodeStarted mode fatal s) := by
    constructor <;> simp [decodeStarted, State.reset]
    split <;> simp [hf]
  by_cases hfatal : s.srcOk = 0#1 ∨ s.len = 0#32
  · exact {
      param := h.param.of_command rfl rfl rfl hl (.inr (.inl (if_pos hfatal)))
      report := hrep
      seq := .of_done (if_pos hfatal) (by simp [AtRest, decodeStarted, State.reset]) }
  · obtain ⟨hsrc, hlen⟩ := not_or.1 hfatal
    have hphase : (decodeStarted mode fatal s).phase = Phase.sync := if_neg hfatal
    exact {
      param := h.param.of_command rfl rfl rfl hl
        (.inr (.inr (.inl ⟨hphase, srcOk_eq_one hsrc, hlen, hm⟩)))
      report := hrep
      seq := .of_sync hphase (by simp [cleared, decodeStarted, State.reset, hsrc, hlen])
        (Nat.pos_of_ne_zero fun h0 => hlen (BitVec.eq_of_toNat_eq h0)) fun k hk => absurd hk (Nat.not_lt_zero k) }

/-- R173: a SCAN starts the scan, or ends at once, and keeps the report. -/
theorem inv_startScan (h : RunInv s) (hb : isBusy s = false) (hl : s.len ≠ 4294967295#32) : RunInv (startScan s) := by
  have hrest : AtRest s.fst := h.seq.atRest (not_decoding_of_not_busy hb)
  rw [startScan_eq]
  by_cases hsrc : s.srcOk = 0#1
  · simp only [if_pos hsrc]
    exact {
      param := h.param.of_command rfl rfl rfl hl (.inr (.inl rfl))
      report := { h.report with scan := by simp }
      seq := .of_done rfl hrest }
  · simp only [if_neg hsrc]
    exact {
      param := h.param.of_command rfl rfl rfl hl (.inr (.inr (.inr ⟨rfl, srcOk_eq_one hsrc, rfl⟩)))
      report := { h.report with scan := by simp }
      seq := .of_scan rfl rfl (Nat.zero_le _) rfl (by simp) hrest }

/-- R179: CLEAR leaves IDLE with every result at its reset value. -/
theorem inv_forget (h : RunInv s) (hl : s.len ≠ 4294967295#32) : RunInv (forget s) := by
  rw [forget_eq]
  exact {
    param := h.param.of_command rfl rfl rfl hl (.inl rfl)
    report := .of_cleared ⟨rfl, rfl, rfl, rfl, rfl, rfl, rfl, rfl⟩
    seq := .of_idle rfl rfl rfl ⟨rfl, rfl, rfl, rfl, rfl, rfl, rfl, rfl⟩ }

theorem inv_cmdEffect {t : State} {i : Instr} (h : RunInv s) (he : CmdEffect s i t) : RunInv t := by
  cases he with
  | ignored => exact h
  | nop => exact h
  | decode _ hl => exact startDecodeOnly_eq s ▸ inv_decodeStarted h hl (.inl rfl) (by decide)
  | scan hb hl => exact inv_startScan h hb hl
  | run _ hl => exact startRun_eq s ▸ inv_decodeStarted h hl (.inr rfl) (by decide)
  | clear _ hl => exact inv_forget h hl

end commands

/-- A register write takes effect on a parameter and not while BUSY, or changes nothing (R176, R181). -/
theorem writeReg_cases (idx : Nat) (v : Word) (s : State) : writeReg idx v s = s ∨
    (isBusy s = false ∧ ∃ len srcOk scanp, writeReg idx v s = { s with len := len, srcOk := srcOk, scanp := scanp }) := by
  unfold writeReg
  split
  next => exact .inl rfl
  next hb =>
    have hb : isBusy s = false := by simpa using hb
    split
    · exact .inr ⟨hb, v, s.srcOk, s.scanp, rfl⟩
    · exact .inr ⟨hb, s.len, _, s.scanp, rfl⟩
    · exact .inr ⟨hb, s.len, s.srcOk, _, rfl⟩
    · exact .inl rfl

/-- A register write changes parameters alone. -/
theorem writeReg_frame (idx : Nat) (v : Word) (s : State) :
    ∃ len srcOk scanp, writeReg idx v s = { s with len := len, srcOk := srcOk, scanp := scanp } := by
  obtain he | ⟨-, he⟩ := writeReg_cases idx v s
  · exact ⟨s.len, s.srcOk, s.scanp, he⟩
  · exact he

/-- R176, R224: a register write keeps the invariant. -/
theorem inv_writeReg {s : State} (h : RunInv s) (idx : Nat) (v : Word) : RunInv (writeReg idx v s) := by
  obtain he | ⟨hb, len, srcOk, scanp, he⟩ := writeReg_cases idx v s
  · rwa [he]
  · rw [he]
    exact inv_quiet h hb rfl rfl rfl rfl rfl rfl rfl rfl rfl rfl rfl rfl

/-- Taking a move off the host's list keeps the invariant. -/
theorem inv_dropMove {s : State} (h : RunInv s) {a : HostAct} {rest : List HostAct} (hh : s.host = a :: rest) :
    RunInv (s.setHost rest) := by
  refine inv_setHost h ?_
  have := h.param.host_moves
  rw [hh, List.all_cons, Bool.and_eq_true] at this
  exact this.2

/-- The state the sequencer's turn runs from meets the invariant. -/
theorem inv_turn {s : State} (h : RunInv s) {rest : List HostAct} (hr : rest = s.host ∨ s.host = .turn :: rest) :
    RunInv (s.setHost rest) := by
  obtain rfl | hh := hr
  · exact h
  · exact inv_dropMove h hh

theorem inv_stepEffect {s t : State} (h : RunInv s) (he : StepEffect s t) : RunInv t := by
  cases he with
  | turn hr hi he => exact inv_seqEffect (inv_turn h hr) hi he
  | command hh hi he => exact inv_cmdEffect (inv_dropMove h hh) he
  | present hh hi he => have := h.param.host_moves; simp [hh, isSpecMove] at this
  | load hh hb hl => exact inv_quiet (inv_dropMove h hh) hb rfl rfl rfl rfl rfl rfl rfl rfl rfl rfl rfl rfl
  | write hh hi => exact inv_writeReg (inv_dropMove h hh) _ _
  | read hh => exact inv_setDataOut (inv_dropMove h hh)
  | waited hh hd => exact inv_setDataOut (inv_dropMove h hh)
  | reset hh => exact inv_reset (inv_dropMove h hh)

/-- Settles O49: every step's effect, the sequencer's, a command's or the host's own, keeps the invariant. -/
theorem stepKeepsRunInvariant : Obligations.StepKeepsRunInvariant := fun _ _ h hs =>
  inv_stepEffect h (stepEffect_of_step hs)

end Sys2Proof.Machine

namespace Sys2Proof.Machine

/-! ### The working registers (R45) -/

/-- A register is kept, rises by one or is cleared. -/
def Moved (a b : Word) : Prop := b = a ∨ b = a + 1 ∨ b = 0

theorem Moved.refl (a : Word) : Moved a a := .inl rfl
theorem Moved.succ (a : Word) : Moved a (a + 1) := .inr (.inl rfl)
theorem Moved.zero (a : Word) : Moved a 0 := .inr (.inr rfl)

/-- CUR, SI and COUNT between two states. -/
def CursorsMoved (s t : State) : Prop := Moved s.cur t.cur ∧ Moved s.si t.si ∧ Moved s.count t.count

theorem CursorsMoved.of_eq {s t : State} (hc : t.cur = s.cur) (hsi : t.si = s.si) (hct : t.count = s.count) :
    CursorsMoved s t := ⟨.inl hc, .inl hsi, .inl hct⟩

/-- A step that moves CUR alone. -/
theorem CursorsMoved.of_advance {s t : State} (hc : t.cur = s.cur + 1) (hsi : t.si = s.si) (hct : t.count = s.count) :
    CursorsMoved s t := ⟨.inr (.inl hc), .inl hsi, .inl hct⟩

/-- The decoder's exit keeps CUR, and keeps SI and COUNT or clears both. -/
theorem CursorsMoved.decoderExit {s u : State} (h : CursorsMoved s u) : CursorsMoved s (decoderExit u) := by
  obtain ⟨hc, hsi, hct⟩ := h
  rw [decoderExit_eq]
  by_cases hm : u.mode = Mode.run
  · simp only [if_pos hm]; exact ⟨hc, .zero _, .zero _⟩
  · simp only [if_neg hm]; exact ⟨hc, hsi, hct⟩

theorem SeqEffect.cursorsMoved {s t : State} {i : Instr} (h : SeqEffect s i t) : CursorsMoved s t := by
  cases h with
  | idle | done | priv => exact .of_eq rfl rfl rfl
  | syncFound => exact .of_advance rfl rfl rfl
  | syncPass => exact .of_advance rfl rfl rfl
  | syncFail => rw [syncFail_eq]; exact .of_eq rfl rfl rfl
  | ver => rw [verBits_eq]; exact .of_eq rfl rfl rfl
  | layer => rw [layerBits_eq]; exact .of_eq rfl rfl rfl
  | prot => rw [protBits_eq]; exact .of_eq rfl rfl rfl
  | profile => rw [profileBits_eq]; exact .of_advance rfl rfl rfl
  | profileTruncated => rw [profileTruncated_eq]; exact .of_advance rfl rfl rfl
  | sfi => rw [sfiBits_eq]; exact .of_eq rfl rfl rfl
  | sfiTruncated => rw [sfiTruncated_eq]; exact .of_eq rfl rfl rfl
  | chan => rw [chanBits_eq]; exact .decoderExit (.of_advance rfl rfl rfl)
  | chanTruncated => rw [chanTruncated_eq]; exact .decoderExit (.of_advance rfl rfl rfl)
  | scanPair =>
    rw [scanPair_eq]
    refine ⟨.refl _, .succ _, ?_⟩
    dsimp only
    split
    · exact .succ _
    · exact .refl _
  | scanEnd => rw [scanEnd_eq]; exact .of_eq rfl rfl rfl

theorem CmdEffect.cursorsMoved {s t : State} {i : Instr} (h : CmdEffect s i t) : CursorsMoved s t := by
  cases h with
  | ignored | nop => exact .of_eq rfl rfl rfl
  | decode => rw [startDecodeOnly_eq]; exact ⟨.zero _, .zero _, .zero _⟩
  | scan => rw [startScan_eq]; exact ⟨.refl _, .zero _, .zero _⟩
  | run => rw [startRun_eq]; exact ⟨.zero _, .zero _, .zero _⟩
  | clear => rw [forget_eq]; exact ⟨.zero _, .zero _, .zero _⟩

/-- A pending `present` is no move of the spec's host. -/
theorem not_isSpecMove_present {s : State} (hm : s.host.all isSpecMove = true) {tb : Table} {w : Nat}
    {rest : List HostAct} (hh : s.host = .present tb w :: rest) : False := by
  simp [hh, isSpecMove] at hm

/-- Settles O43: the sequencer's arms move the three registers by one or not at all, and commands and reset clear them. -/
theorem workingRegistersStepByOne : Obligations.WorkingRegistersStepByOne := by
  intro s t hm hs
  suffices CursorsMoved s t from this
  cases stepEffect_of_step hs with
  | turn _ _ he => exact he.cursorsMoved (s := s.setHost _)
  | command _ _ he => exact he.cursorsMoved (s := s.setHost _)
  | present hh => exact (not_isSpecMove_present hm hh).elim
  | load | read | waited => exact .of_eq rfl rfl rfl
  | @write idx v rest =>
    obtain ⟨len, srcOk, scanp, he⟩ := writeReg_frame idx v (s.setHost rest)
    rw [he]
    exact .of_eq rfl rfl rfl
  | reset => exact ⟨.zero _, .zero _, .zero _⟩

/-! ### The sticky flags (R36, R202) -/

/-- Every flag of the first is set in the second. -/
structure Err.Le (e e' : Err) : Prop where
  kept : ∀ c : Cause, e.has c = true → e'.has c = true

theorem Err.Le.refl (e : Err) : e.Le e := ⟨fun _ hc => hc⟩

theorem Err.Le.trans {e e' e'' : Err} (h : e.Le e') (h' : e'.Le e'') : e.Le e'' :=
  ⟨fun c hc => h'.kept c (h.kept c hc)⟩

/-- The flags after one is set: that one, and the ones before. -/
theorem Err.has_set (e : Err) (c d : Cause) : (e.set d).has c = (e.has c || decide (c = d)) := by
  cases d <;> cases c <;> simp [Err.set, Err.has]

theorem err_le_raise (d : Cause) (s : State) : s.err.Le (raise d s).err :=
  ⟨fun c hc => by rw [raise_err, Err.has_set, hc, Bool.true_or]⟩

/-! The operations that raise nothing. -/

section noError
variable (s : State)
@[simp] theorem advance_err : (advance s).err = s.err := by simp [advance]
@[simp] theorem syncFound_err : (syncFound s).err = s.err := by simp [syncFound]
@[simp] theorem syncPair_err (b0 b1 : Byte) : (syncPair b0 b1 s).err = s.err := by
  unfold syncPair
  split
  · exact syncFound_err s
  · exact advance_err s
@[simp] theorem applyVer_err (v : BitVec 1) : (applyVer v s).err = s.err := by simp [applyVer]
@[simp] theorem applyProt_err (p : BitVec 1) : (applyProt p s).err = s.err := by simp [applyProt]
@[simp] theorem verBits_err (v : BitVec 1) : (verBits v s).err = s.err := by simp [verBits]
@[simp] theorem protBits_err (p : BitVec 1) : (protBits p s).err = s.err := by simp [protBits]
@[simp] theorem privBits_err (x : BitVec 1) : (privBits x s).err = s.err := by simp [privBits]
@[simp] theorem decoderExit_err : (decoderExit s).err = s.err := by rw [decoderExit_eq]
@[simp] theorem scanPair_err (b0 b1 : Byte) : (scanPair b0 b1 s).err = s.err := by rw [scanPair_eq]
@[simp] theorem scanEnd_err : (scanEnd s).err = s.err := by simp [scanEnd]
end noError

/-! The value tables write a status, or raise one error; their steps add no flag of their own. -/

section mayRaise
variable (s : State)

theorem err_le_applyLayer (l : BitVec 2) : s.err.Le (applyLayer l s).err := by
  unfold applyLayer
  split
  · exact .refl _
  · exact err_le_raise _ s

theorem err_le_applyProfile (v : BitVec 3) : s.err.Le (applyProfile v s).err := by
  unfold applyProfile
  split
  · exact err_le_raise _ s
  · exact .refl _

theorem err_le_applySfi (v : BitVec 4) : s.err.Le (applySfi v s).err := by
  unfold applySfi
  split
  · exact .refl _
  · exact err_le_raise _ s

theorem err_le_applyChan (v : BitVec 4) : s.err.Le (applyChan v s).err := by
  unfold applyChan
  split
  · exact err_le_raise _ s
  · exact .refl _

theorem err_le_layerBits (l : BitVec 2) : s.err.Le (layerBits l s).err := by
  simpa [layerBits] using err_le_applyLayer s l

theorem err_le_profileBits (p : BitVec 2) : s.err.Le (profileBits p s).err := by
  simpa [profileBits] using err_le_applyProfile (advance s) (p.setWidth 3)

theorem err_le_sfiBits (i : BitVec 4) : s.err.Le (sfiBits i s).err := by
  simpa [sfiBits] using err_le_applySfi s i

theorem err_le_chanBits (n : BitVec 3) : s.err.Le (chanBits n s).err := by
  simpa [chanBits] using err_le_applyChan (advance s) (n.setWidth 4)

theorem err_le_syncFail : s.err.Le (syncFail s).err := by
  rw [syncFail_eq]
  exact err_le_raise .syncNotFound s

theorem err_le_profileTruncated : s.err.Le (profileTruncated s).err := by
  simpa [profileTruncated] using err_le_raise .truncated (advance s)

theorem err_le_sfiTruncated : s.err.Le (sfiTruncated s).err := by
  simpa [sfiTruncated] using err_le_raise .truncated s

theorem err_le_chanTruncated : s.err.Le (chanTruncated s).err := by
  simpa [chanTruncated] using err_le_raise .truncated (advance s)

/-- The whole header: the eight steps' effects one after another. -/
theorem err_le_header (v : BitVec 1) (l : BitVec 2) (p x : BitVec 1) (ssss : BitVec 4) (pp : BitVec 2) (n : BitVec 3) :
    s.err.Le (chanBits n (privBits x (sfiBits ssss (profileBits pp (protBits p (layerBits l (verBits v
      (syncFound s)))))))).err := by
  have hlayer := err_le_layerBits (verBits v (syncFound s)) l
  have hprofile := err_le_profileBits (protBits p (layerBits l (verBits v (syncFound s)))) pp
  have hsfi := err_le_sfiBits (profileBits pp (protBits p (layerBits l (verBits v (syncFound s))))) ssss
  rw [verBits_err, syncFound_err] at hlayer
  rw [protBits_err] at hprofile
  refine ((hlayer.trans hprofile).trans hsfi).trans ?_
  simpa only [privBits_err] using err_le_chanBits (privBits x _) n

/-- An accepted SCAN raises `SourceUnavailable` or nothing. -/
theorem err_le_startScan : s.err.Le (startScan s).err := by
  refine ⟨fun c hc => ?_⟩
  rw [startScan_eq]
  cases c with
  | sourceUnavailable => exact Bool.or_eq_true_iff.mpr (.inl hc)
  | _ => exact hc

end mayRaise

theorem SeqEffect.err_le {s t : State} {i : Instr} (h : SeqEffect s i t) : s.err.Le t.err := by
  cases h with
  | idle | done => exact .refl _
  | priv => exact .refl _
  | syncFound => rw [syncFound_err]; exact .refl _
  | syncPass => rw [advance_err]; exact .refl _
  | syncFail => exact err_le_syncFail s
  | ver => rw [verBits_err]; exact .refl _
  | layer => exact err_le_layerBits s _
  | prot => rw [protBits_err]; exact .refl _
  | profile => exact err_le_profileBits s _
  | profileTruncated => exact err_le_profileTruncated s
  | sfi => exact err_le_sfiBits s _
  | sfiTruncated => exact err_le_sfiTruncated s
  | chan => exact err_le_chanBits s _
  | chanTruncated => exact err_le_chanTruncated s
  | scanPair => rw [scanPair_err]; exact .refl _
  | scanEnd => rw [scanEnd_err]; exact .refl _

/-- A command keeps every flag unless it is an accepted DECODE, RUN or CLEAR. -/
theorem CmdEffect.err_le {s t : State} {i : Instr} (h : CmdEffect s i t)
    (hi : ∀ n, encode i = (.command, n) → (!isBusy s && [1, 3, 4].contains n) = false) : s.err.Le t.err := by
  cases h with
  | ignored | nop => exact .refl _
  | scan => exact err_le_startScan s
  | decode hb | run hb | clear hb => have := hi _ rfl; simp [hb] at this

/-- A decoded row is a row of the table it was decoded in. -/
theorem encode_fst_of_decode {tb : Table} {w : Nat} {i : Instr} (h : decode tb w = .ok i) : (encode i).1 = tb := by
  cases tb with
  | phase => rw [encode_of_decode_phase h]
  | command => rw [encode_of_decode_command h]
  | readBit => simp only [decode, decodeReadBit] at h; split at h <;> cases h; rfl
  | readBits => simp only [decode, decodeReadBits] at h; split at h <;> cases h; rfl
  | header => simp only [decode, decodeHeader] at h; split at h <;> cases h; rfl
  | candidate => simp only [decode, decodeCandidate] at h; split at h <;> cases h; rfl
  | pattern => simp only [decode, decodePattern] at h; split at h <;> cases h <;> rfl
  | verField => simp only [decode, decodeVerField] at h; split at h <;> cases h <;> rfl
  | protField => simp only [decode, decodeProtField] at h; split at h <;> cases h <;> rfl
  | layerField => simp only [decode, decodeLayerField] at h; split at h <;> cases h <;> rfl
  | profileField => simp only [decode, decodeProfileField] at h; split at h <;> cases h <;> rfl
  | sfiField => simp only [decode, decodeSfiField] at h; split at h <;> cases h <;> rfl
  | chanField => simp only [decode, decodeChanField] at h; split at h <;> cases h <;> rfl

@[simp] theorem isBusy_setHost (s : State) (moves : List HostAct) : isBusy (s.setHost moves) = isBusy s := rfl

/-- Any row presented keeps every flag unless it is an accepted DECODE, RUN or CLEAR. -/
theorem RowEffect.err_le {s t : State} {i : Instr} (h : RowEffect s i t)
    (hi : ∀ n, encode i = (.command, n) → (!isBusy s && [1, 3, 4].contains n) = false) : s.err.Le t.err := by
  cases h with
  | seq h => exact h.err_le
  | cmd h => exact h.err_le hi
  | readBit | readBits => exact .refl _
  | candidate => rw [syncPair_err]; exact .refl _
  | header => exact err_le_header ..
  | pattern => rw [scanPair_err]; exact .refl _
  | verField => rw [applyVer_err]; exact .refl _
  | protField => rw [applyProt_err]; exact .refl _
  | layerField v => exact err_le_applyLayer s v
  | profileField v => exact err_le_applyProfile s v
  | sfiField v => exact err_le_applySfi s v
  | chanField v => exact err_le_applyChan s v

/-- Settles O44: every row raises flags and clears none, save an accepted DECODE, RUN or CLEAR; reset is the one other move
that does. -/
theorem errorFlagsAreSticky : Obligations.ErrorFlagsAreSticky := by
  intro s t hx hs
  suffices s.err.Le t.err from this.kept
  cases stepEffect_of_step hs with
  | turn _ _ he => exact he.err_le
  | command hh hi he =>
    refine he.err_le fun n hn => ?_
    obtain rfl := congrArg Prod.snd (hi.symm.trans hn)
    simpa only [resetsOrCommands, hh, decide_true, Bool.true_and, isBusy_setHost] using hx
  | present hh hd he =>
    refine he.err_le fun n hn => ?_
    obtain rfl := (encode_fst_of_decode hd).symm.trans (congrArg Prod.fst hn)
    obtain rfl := congrArg Prod.snd ((encode_of_decode_command hd).symm.trans hn)
    simpa only [resetsOrCommands, hh, isBusy_setHost] using hx
  | load | read | waited => exact .refl _
  | @write idx v rest =>
    obtain ⟨len, srcOk, scanp, he⟩ := writeReg_frame idx v (s.setHost rest)
    rw [he]
    exact .refl _
  | reset hh => simp [resetsOrCommands, hh] at hx

end Sys2Proof.Machine

namespace Sys2Proof.Machine

/-! ### Statuses and flags do not steer (R44, R191) -/

/-- The same state with another FST and another ERR. -/
def withStatus (s : State) (f : Fst) (e : Err) : State := { s with fst := f, err := e }

/-- The guards of an arm read neither FST nor ERR, and its update of the other registers does not either. -/
theorem SeqEffect.withStatus {s t : State} {i : Instr} (h : SeqEffect s i t) (f : Fst) (e : Err) :
    ∃ t', SeqEffect (withStatus s f e) i t' ∧ withStatus t' t.fst t.err = t := by
  cases h with
  | idle => exact ⟨_, .idle, rfl⟩
  | done => exact ⟨_, .done, rfl⟩
  | syncFound hc => exact ⟨_, .syncFound hc, by rw [syncFound_eq, syncFound_eq]; rfl⟩
  | syncPass h hc => exact ⟨_, .syncPass h hc, by rw [advance_eq, advance_eq]; rfl⟩
  | syncFail h => exact ⟨_, .syncFail h, by rw [syncFail_eq, syncFail_eq]; rfl⟩
  | ver h => exact ⟨_, .ver h, by rw [verBits_eq, verBits_eq]; rfl⟩
  | layer h => exact ⟨_, .layer h, by rw [layerBits_eq, layerBits_eq]; rfl⟩
  | prot h => exact ⟨_, .prot h, by rw [protBits_eq, protBits_eq]; rfl⟩
  | profile h => exact ⟨_, .profile h, by rw [profileBits_eq, profileBits_eq]; rfl⟩
  | profileTruncated h => exact ⟨_, .profileTruncated h, by rw [profileTruncated_eq, profileTruncated_eq]; rfl⟩
  | sfi h => exact ⟨_, .sfi h, by rw [sfiBits_eq, sfiBits_eq]; rfl⟩
  | sfiTruncated h => exact ⟨_, .sfiTruncated h, by rw [sfiTruncated_eq, sfiTruncated_eq]; rfl⟩
  | priv => exact ⟨_, .priv, rfl⟩
  | chan h => exact ⟨_, .chan h, by rw [chanBits_eq, chanBits_eq, decoderExit_eq, decoderExit_eq]; rfl⟩
  | chanTruncated h =>
    exact ⟨_, .chanTruncated h, by rw [chanTruncated_eq, chanTruncated_eq, decoderExit_eq, decoderExit_eq]; rfl⟩
  | scanPair h => exact ⟨_, .scanPair h, by rw [scanPair_eq, scanPair_eq]; rfl⟩
  | scanEnd h => exact ⟨_, .scanEnd h, by rw [scanEnd_eq, scanEnd_eq]; rfl⟩

/-- Settles O46: the arm taken in one state is taken in every state that differs in FST and ERR alone. -/
theorem statusesDoNotSteer : Obligations.StatusesDoNotSteer := by
  intro s t i f e hi h
  have hphase : (encode i).1 = .phase := by
    simp only [List.mem_cons, List.not_mem_nil, or_false] at hi
    obtain rfl | rfl | rfl | rfl | rfl | rfl | rfl | rfl | rfl := hi <;> rfl
  obtain ⟨t', he, ht⟩ := (seqEffect_of_exec hphase h).withStatus f e
  exact ⟨t', he.exec_eq, ht⟩

/-! ### DONE is stable (R41) -/

/-- PHASE, MODE and every result and working register stand as in a state in DONE. -/
def Stable (s t : State) : Prop :=
  t.phase = 10 ∧ t.mode = s.mode ∧ reportOf t = reportOf s ∧ t.fst = s.fst ∧ t.si = s.si ∧ t.count = s.count

/-- The sequencer's turn in DONE is the wait. -/
theorem SeqEffect.eq_of_done {s t : State} {i : Instr} (h : SeqEffect s i t) (hp : s.phase = 10)
    (hi : encode i = (.phase, s.phase.toNat)) : t = s := by
  cases h with
  | idle => rfl
  | done => rfl
  | _ => simp [hp, encode] at hi

/-- A command that is not an accepted DECODE, SCAN, RUN or CLEAR changes nothing. -/
theorem CmdEffect.eq_of_no_command {s t : State} {i : Instr} {n : Nat} (h : CmdEffect s i t)
    (hi : encode i = (.command, n)) (hn : (!isBusy s && [1, 2, 3, 4].contains n) = false) : t = s := by
  obtain rfl := congrArg Prod.snd hi
  cases h with
  | ignored | nop => rfl
  | decode hb | scan hb | run hb | clear hb => simp [hb, encode] at hn

/-- Settles O47: in DONE the sequencer waits, the other commands do nothing, and the host's own moves write parameters, the
buffer and the value it reads. -/
theorem resultsAreStableInDone : Obligations.ResultsAreStableInDone := by
  intro s t hm hp hx hs
  suffices Stable s t from this
  cases stepEffect_of_step hs with
  | turn _ hi he => obtain rfl := he.eq_of_done hp hi; exact ⟨hp, rfl, rfl, rfl, rfl, rfl⟩
  | @command v rest i _ hh hi he =>
    have hn : (!isBusy (s.setHost rest) && [1, 2, 3, 4].contains (v.toNat % 8)) = false := by
      simpa only [resetsOrCommands, hh, decide_true, Bool.true_and, isBusy_setHost] using hx
    obtain rfl := he.eq_of_no_command hi hn
    exact ⟨hp, rfl, rfl, rfl, rfl, rfl⟩
  | present hh => exact (not_isSpecMove_present hm hh).elim
  | load | read | waited => exact ⟨hp, rfl, rfl, rfl, rfl, rfl⟩
  | @write idx v rest =>
    obtain ⟨len, srcOk, scanp, he⟩ := writeReg_frame idx v (s.setHost rest)
    rw [he]
    exact ⟨hp, rfl, rfl, rfl, rfl, rfl⟩
  | reset hh => simp [resetsOrCommands, hh] at hx

/-! ### HeaderInfo (R27 to R34) -/

theorem guard_eq_some_iff {α : Type} (st : Status) (v w : α) : st.guard v = some w ↔ st = .ok ∧ v = w := by
  cases st <;> simp [Status.guard]

theorem guard_isSome_iff {α : Type} (st : Status) (v : α) : (st.guard v).isSome = true ↔ st = .ok := by
  cases st <;> simp [Status.guard]

theorem mpegVersion_ofCode_iff (v : BitVec 1) :
    ∀ p ∈ [(0#1, MpegVersion.mpeg4), (1#1, .mpeg2)], MpegVersion.ofCode v = p.2 ↔ v = p.1 := by
  revert v; decide

theorem crcPresent_iff (v : BitVec 1) : ∀ p ∈ [(0#1, false), (1#1, true)], decide (v = 1) = p.2 ↔ v = p.1 := by
  revert v; decide

theorem profMap_eq_iff (v : BitVec 3) :
    ∀ p ∈ [(1#3, Profile.main), (2#3, .lc), (3#3, .ssr), (4#3, .ltp)], profMap v = p.2 ↔ v = p.1 := by
  revert v; decide

theorem ccMap_eq_iff (v : BitVec 4) :
    ∀ p ∈ [(0#4, ChannelConfig.inbandPce), (1#4, .frontCenter), (2#4, .frontLr), (3#4, .frontClr), (4#4, .quad),
      (5#4, .five), (6#4, .fiveOneLfe), (7#4, .sevenOneLfe)], ccMap v = p.2 ↔ v = p.1 := by
  revert v; decide

section absent
variable {s : State}

/-- In a state of the invariant a value field whose status is not OK holds 0 (R34). -/
theorem ReportInv.absent_zero (h : ReportInv s) :
    (s.fst.ver ≠ .ok → s.hdr.ver = 0) ∧ (s.fst.crc ≠ .ok → s.hdr.crc = 0) ∧ (s.fst.prof ≠ .ok → s.hdr.profile = 0) ∧
      (s.fst.sf ≠ .ok → s.sfHz = 0) ∧ (s.fst.cc ≠ .ok → s.hdr.chan = 0) := by
  refine ⟨fun hn => ?_, fun hn => ?_, fun hn => ?_, fun hn => ?_, fun hn => ?_⟩
  · obtain ⟨ho, -⟩ | ⟨-, hz, -⟩ := h.ver
    · exact absurd ho hn
    · exact hz
  · obtain ⟨ho, -⟩ | ⟨-, hz, -⟩ := h.crc
    · exact absurd ho hn
    · exact hz
  · obtain ⟨ho, -⟩ | ⟨-, -, hz⟩ | ⟨-, -, hz⟩ := h.prof
    · exact absurd ho hn
    · exact hz
    · exact hz
  · obtain ⟨ho, -⟩ | ⟨-, -, hz⟩ | ⟨-, -, hz⟩ := h.sf
    · exact absurd ho hn
    · exact hz
    · exact hz
  · obtain ⟨ho, -⟩ | ⟨-, -, hz⟩ := h.cc
    · exact absurd ho hn
    · exact hz

/-- CRC is present exactly for the header bit 0 (R134). -/
theorem ReportInv.crcPresent (h : ReportInv s) :
    (headerInfo s).crcPresent = some true ↔ s.fst.crc = .ok ∧ s.raw.pa = 0 := by
  rw [show (headerInfo s).crcPresent = s.fst.crc.guard (decide (s.hdr.crc = 1)) from rfl, guard_eq_some_iff]
  refine and_congr_right fun hok => ?_
  have hbit : ∀ b : BitVec 1, decide (1 - b = 1) = true ↔ b = 0 := by decide
  obtain ⟨-, hc⟩ | ⟨hn, -⟩ := h.crc
  · rw [hc, hbit]
  · simp [hok] at hn

/-- A present profile is Main, LC or SSR: LTP and Unknown are never reported (C1 of the spec's conflicts). -/
theorem ReportInv.profile_ne (h : ReportInv s) :
    (headerInfo s).profile ≠ some .ltp ∧ (headerInfo s).profile ≠ some .unknown := by
  have hmap : ∀ p : BitVec 2, p ≠ 0 → profMap (p.setWidth 3) ≠ .ltp ∧ profMap (p.setWidth 3) ≠ .unknown := by decide
  simp only [headerInfo, ne_eq, guard_eq_some_iff, not_and]
  obtain ⟨-, hz, hp⟩ | ⟨hn, -⟩ | ⟨hn, -⟩ := h.prof
  · rw [hp]; exact ⟨fun _ => (hmap _ hz).1, fun _ => (hmap _ hz).2⟩
  · simp [hn]
  · obtain hn | hn := hn <;> simp [hn]

/-- A present channel layout is never Reserved (C2 of the spec's conflicts). -/
theorem ReportInv.channel_ne (h : ReportInv s) : (headerInfo s).channelConfiguration ≠ some .reserved := by
  simp only [headerInfo, ne_eq, guard_eq_some_iff, not_and]
  intro hok
  obtain ⟨-, hc⟩ | ⟨hn, -⟩ := h.cc
  · rw [hc]; exact (ccMap_setWidth _).1
  · simp [hok] at hn

end absent

/-- Settles O53, field by field; the second half by the clauses of the report's invariant. -/
theorem absentFieldsHoldFixedContents : Obligations.AbsentFieldsHoldFixedContents := by
  intro s
  refine ⟨⟨guard_isSome_iff .., guard_isSome_iff .., guard_isSome_iff .., guard_isSome_iff .., guard_isSome_iff ..⟩,
    fun p hp => ?_, fun p hp => ?_, fun p hp => ?_, fun hz => guard_eq_some_iff .., fun p hp => ?_, fun h => ?_⟩
  · exact (guard_eq_some_iff ..).trans (and_congr_right fun _ => mpegVersion_ofCode_iff _ p hp)
  · exact (guard_eq_some_iff ..).trans (and_congr_right fun _ => crcPresent_iff _ p hp)
  · exact (guard_eq_some_iff ..).trans (and_congr_right fun _ => profMap_eq_iff _ p hp)
  · exact (guard_eq_some_iff ..).trans (and_congr_right fun _ => ccMap_eq_iff _ p hp)
  · have hr := h.report
    obtain ⟨hver, hcrc, hprof, hsf, hcc⟩ := hr.absent_zero
    exact ⟨hver, hcrc, hprof, hsf, hcc, hr.crcPresent, hr.profile_ne.1, hr.profile_ne.2, hr.channel_ne⟩

end Sys2Proof.Machine

namespace Sys2Proof.Machine

/-! ### What the next step fetches (R24, R94, R170, R178) -/

section fetch
variable {s : State} {rest : List HostAct}

theorem fetch_nil (h : s.host = []) : fetch s = some (.phase, s.phase.toNat, s) := by simp [fetch, h]

theorem fetch_turn (h : s.host = .turn :: rest) : fetch s = some (.phase, s.phase.toNat, s.setHost rest) := by
  simp [fetch, h]

theorem fetch_wait (h : s.host = .wait :: rest) (hp : s.phase ≠ 10) : fetch s = some (.phase, s.phase.toNat, s) := by
  have hd : isDone s = false := decide_eq_false hp
  simp [fetch, h, hd]

theorem fetch_command {v : Word} (h : s.host = .wr 0 v :: rest) :
    fetch s = some (.command, v.toNat, s.setHost rest) := by simp [fetch, h]

theorem fetch_present {tb : Table} {w : Nat} (h : s.host = .present tb w :: rest) :
    fetch s = some (tb, w, s.setHost rest) := by simp [fetch, h]

end fetch

/-- Settles O6, from what `step` does with a fetched number and what `fetch` gives for each move. -/
theorem stepRunsTheDecodedRow : Obligations.StepRunsTheDecodedRow := fun _ _ =>
  ⟨fun _ _ _ hf => ⟨fun _ hd => step_of_fetch_ok hf hd, fun _ hd => step_of_fetch_error hf hd⟩, fetch_nil, fetch_turn,
    fetch_wait, fun _ => fetch_command, fun _ _ => fetch_present⟩

/-- A number that fits its place is fetched as it was placed. -/
theorem fetch_placeWord {t : Table} {w : Nat} (s : State) (hp : t = .phase → w % 2 ^ 4 = w)
    (hc : t = .command → w % 2 ^ 32 = w) : fetch (placeWord t w s) =
      some (t, w, if t = .phase then { s with phase := BitVec.ofNat 4 w } else s) := by
  cases t with
  | phase =>
    have hw : (BitVec.ofNat 4 w).toNat = w := by rw [BitVec.toNat_ofNat, hp rfl]
    rw [placeWord, fetch_turn (rest := s.host) rfl]
    simp only [setHost_phase, setPhase_phase, hw]
    rfl
  | command =>
    have hw : (BitVec.ofNat 32 w).toNat = w := by rw [BitVec.toNat_ofNat, hc rfl]
    rw [placeWord, fetch_command (rest := s.host) rfl, hw]
    rfl
  | _ => exact fetch_present rfl

/-- The numbering cuts a phase code to four bits and a command word to 32. -/
theorem tableWord_snd (nbits w : Nat) :
    ((tableWord nbits w).1 = .phase → (tableWord nbits w).2 = w % 2 ^ 4) ∧
    ((tableWord nbits w).1 = .command → (tableWord nbits w).2 = w % 2 ^ 32) := by
  unfold tableWord
  split_ifs
  · simp
  · simp
  · split <;> simp
  · simp
  · simp
  · simp

theorem decode_of_decodeTableWord {nbits w : Nat} {i : Instr} (h : decodeTableWord nbits w = some i) :
    decode (tableWord nbits w).1 (tableWord nbits w).2 = .ok i := by
  unfold decodeTableWord at h
  split at h
  next hd => cases h; exact hd
  next => cases h

/-- Settles O7: the numbering has cut the number to its place's width, so it is fetched as placed. -/
theorem placedRowRunsNext : Obligations.PlacedRowRunsNext := by
  intro s nbits w i h
  obtain ⟨hphase, hcommand⟩ := tableWord_snd nbits w
  have hf := fetch_placeWord (t := (tableWord nbits w).1) (w := (tableWord nbits w).2) s
    (fun ht => by rw [hphase ht, Nat.mod_mod]) (fun ht => by rw [hcommand ht, Nat.mod_mod])
  refine (step_of_fetch_ok hf (decode_of_decodeTableWord h)).trans (congrArg (exec i) ?_)
  split
  next ht =>
    have : BitVec.ofNat 4 (tableWord nbits w).2 = BitVec.ofNat 4 w :=
      BitVec.eq_of_toNat_eq (by simp only [BitVec.toNat_ofNat, hphase ht, Nat.mod_mod])
    rw [this]
  next => rfl

/-! ### Stops, and the reset state -/

/-- Settles O24: each of the five arms is a refusal. -/
theorem reservedPhasesStop : Obligations.ReservedPhasesStop := fun _ => ⟨rfl, rfl, rfl, rfl, rfl⟩

/-- Every command row is `acceptCommand` of some effect. -/
theorem exec_command {i : Instr}
    (hi : i ∈ [.cmdNop, .cmdDecode, .cmdScan, .cmdRun, .cmdClear, .cmdReserved5, .cmdReserved6, .cmdReserved7]) :
    ∃ f : State → State, exec i = acceptCommand f := by
  simp only [List.mem_cons, List.not_mem_nil, or_false] at hi
  obtain rfl | rfl | rfl | rfl | rfl | rfl | rfl | rfl := hi <;> exact ⟨_, rfl⟩

/-- R21, U6: an accepted command stops while LEN is the one value that is not legal. -/
theorem acceptCommand_illegal {f : State → State} {s : State} (hb : isBusy s = false) (hl : s.len = 4294967295#32) :
    acceptCommand f s = .refused .lengthTooLarge := by simp [acceptCommand, hb, hl]

/-- Settles O30: the eight rows share the two tests before their effect. -/
theorem commandsRefusedOrIgnored : Obligations.CommandsRefusedOrIgnored := by
  intro s i hi
  obtain ⟨f, hf⟩ := exec_command hi
  rw [hf]
  exact ⟨acceptCommand_illegal, acceptCommand_busy⟩

/-- Settles O50: in IDLE with every register 0 each clause is about reset values or about a phase that is not the one. -/
theorem runInvariantAtReset : Obligations.RunInvariantAtReset := by
  refine ⟨reset_buf_wf, fun moves hm => ?_⟩
  exact {
    param := ⟨Nat.zero_le _, hm, by simp [isBusy, State.reset], by simp [State.reset], by simp [State.reset]⟩
    report := .of_cleared ⟨rfl, rfl, rfl, rfl, rfl, rfl, rfl, rfl⟩
    seq := .of_idle rfl rfl rfl ⟨rfl, rfl, rfl, rfl, rfl, rfl, rfl, rfl⟩ }

/-! ### Reset (R43, R220) -/

theorem regWord_reset (idx : Nat) : regWord State.reset idx = 0 := by
  unfold regWord
  split <;> decide

/-- The register file reads the same whatever the buffer, the host's list and `dataOut` are. -/
theorem regWord_congr (s : State) (buf : Memory) (moves : List HostAct) (v : Word) (idx : Nat) :
    regWord { s with buf := buf, host := moves, dataOut := v } idx = regWord s idx := by
  unfold regWord
  split <;> rfl

theorem resetRegs_eq (s : State) :
    resetRegs s = { State.reset with buf := s.buf, host := s.host, dataOut := s.dataOut } := rfl

theorem writeReg_busy {s : State} (idx : Nat) (v : Word) (hb : isBusy s = true) : writeReg idx v s = s := if_pos hb

theorem CmdEffect.eq_of_busy {s t : State} {i : Instr} (h : CmdEffect s i t) (hb : isBusy s = true) : t = s := by
  cases h with
  | ignored | nop => rfl
  | decode hn | scan hn | run hn | clear hn => rw [hb] at hn; cases hn

/-- While BUSY, every move of the spec's host but reset and the two that give the sequencer its turn changes at most the
host's list and the value read. -/
theorem busy_host_move {s t : State} {a : HostAct} {rest : List HostAct} (hh : s.host = a :: rest)
    (ha : isSpecMove a = true) (hx : a ∉ [.reset, .turn, .wait]) (hb : isBusy s = true) (hs : step s = .next t) :
    ∃ v, t = { s with host := rest, dataOut := v } := by
  simp only [List.mem_cons, List.not_mem_nil, or_false, not_or] at hx
  obtain ⟨hreset, hturn, hwait⟩ := hx
  cases a with
  | load bytes =>
    rw [step_of_fetch_none (by simp [fetch, hh]) hh] at hs
    have hn : isBusy s = false := (loadBuffer_cases hs).1
    rw [hb] at hn
    cases hn
  | wr idx v =>
    by_cases hi : idx = 0
    · subst hi
      obtain ⟨i, hd, he⟩ := exec_of_step_next (fetch_command hh) hs
      have hi := congrArg Prod.fst (encode_of_decode_command hd)
      exact ⟨s.dataOut, (cmdEffect_of_exec hi he).eq_of_busy hb⟩
    · rw [step_of_fetch_none (by simp [fetch, hh, hi]) hh] at hs
      exact ⟨s.dataOut, (next_inj hs).trans (writeReg_busy _ _ hb)⟩
  | rd idx =>
    rw [step_of_fetch_none (by simp [fetch, hh]) hh] at hs
    exact ⟨_, next_inj hs⟩
  | wait => exact absurd rfl hwait
  | turn => exact absurd rfl hturn
  | reset => exact absurd rfl hreset
  | present tb w => cases ha

/-- Settles O9: reset puts the reset registers under the buffer and the host's side, and the moves of the host while BUSY
reach no register. -/
theorem resetRestoresTheTable : Obligations.ResetRestoresTheTable := by
  refine ⟨regWord_reset, fun s rest hh => ?_, fun s t a rest hh ha hx h1 h9 hs => ?_⟩
  · refine ⟨resetRegs (s.setHost rest), step_of_fetch_none (by simp [fetch, hh]) hh, fun idx => ?_, rfl, rfl, rfl, rfl, rfl,
      rfl, fun _ => rfl⟩
    rw [resetRegs_eq, regWord_congr, regWord_reset]
  · obtain ⟨v, rfl⟩ := busy_host_move hh ha hx ((isBusy_iff s).2 ⟨h1, h9⟩) hs
    exact ⟨rfl, regWord_congr s s.buf rest v, fun _ => rfl⟩

/-! ### The register words (R27 to R37) -/

/-- Two fields side by side, as one number. -/
theorem toNat_append_add {m n : Nat} (x : BitVec m) (y : BitVec n) : (x ++ y).toNat = x.toNat * 2 ^ n + y.toNat := by
  rw [BitVec.toNat_append, ← Nat.shiftLeft_add_eq_or_of_lt y.isLt, Nat.shiftLeft_eq]

theorem toNat_statusWord (s : State) : (statusWord s).toNat = s.phase.toNat + 16 * s.mode.toNat +
    64 * (isBusy s).toNat + 128 * (isDone s).toNat + 256 * (s.err.sourceUnavailable || s.err.emptyInput).toNat +
    512 * (decide (s.err.word ≠ 0)).toNat := by
  simp only [statusWord, toNat_append_add, BitVec.toNat_ofBool, BitVec.toNat_ofNat]
  omega

theorem toNat_scanpWord (p : Scanp) : p.word.toNat = p.ver.toNat + 2 * p.crc.toNat := by
  simp only [Scanp.word, toNat_append_add, BitVec.toNat_ofNat]
  omega

theorem toNat_hdrWord (h : Hdr) :
    h.word.toNat = h.ver.toNat + 2 * h.crc.toNat + 4 * h.profile.toNat + 32 * h.chan.toNat := by
  simp only [Hdr.word, toNat_append_add, BitVec.toNat_ofNat]
  omega

theorem toNat_rawWord (r : Raw) : r.word.toNat = r.ver.toNat + 2 * r.layer.toNat + 8 * r.pa.toNat +
    16 * r.prof.toNat + 64 * r.sfi.toNat + 1024 * r.cc.toNat := by
  simp only [Raw.word, toNat_append_add, BitVec.toNat_ofNat]
  omega

theorem toNat_fstWord (f : Fst) : f.word.toNat = f.sync.code.toNat + 4 * f.ver.code.toNat + 16 * f.layer.code.toNat +
    64 * f.crc.code.toNat + 256 * f.prof.code.toNat + 1024 * f.sf.code.toNat + 4096 * f.cc.code.toNat +
    16384 * f.scan.code.toNat := by
  simp only [Fst.word, toNat_append_add, BitVec.toNat_ofNat]
  omega

theorem toNat_errWord (e : Err) : e.word.toNat = 2 * e.syncNotFound.toNat + 4 * e.invalidLayer.toNat +
    8 * e.invalidProfile.toNat + 16 * e.invalidSamplingFrequency.toNat + 32 * e.invalidChannelConfig.toNat +
    64 * e.sourceUnavailable.toNat + 128 * e.emptyInput.toNat + 256 * e.truncated.toNat := by
  simp only [Err.word, toNat_append_add, BitVec.toNat_ofBool, BitVec.toNat_ofNat]
  omega

/-- A slice in arithmetic on naturals. -/
theorem extractLsb'_eq_iff {m : Nat} (x : BitVec m) (k n : Nat) (y : BitVec n) :
    x.extractLsb' k n = y ↔ x.toNat / 2 ^ k % 2 ^ n = y.toNat := by
  rw [← BitVec.toNat_inj, BitVec.extractLsb'_toNat, Nat.shiftRight_eq_div_pow]

theorem getLsbD_eq_iff {m : Nat} (x : BitVec m) (k : Nat) (b : Bool) :
    x.getLsbD k = b ↔ x.toNat / 2 ^ k % 2 = b.toNat := by
  rw [← BitVec.testBit_toNat, Nat.testBit_eq_decide_div_mod_eq]
  cases b <;> simp

/-- R37: the six named fields of STATUS. -/
theorem statusWord_layout (s : State) : (statusWord s).extractLsb' 0 4 = s.phase ∧
    (statusWord s).extractLsb' 4 2 = s.mode ∧ (statusWord s).extractLsb' 6 1 = BitVec.ofBool (isBusy s) ∧
    (statusWord s).extractLsb' 7 1 = BitVec.ofBool (isDone s) ∧
    (statusWord s).extractLsb' 8 1 = BitVec.ofBool (s.err.sourceUnavailable || s.err.emptyInput) ∧
    (statusWord s).extractLsb' 9 1 = BitVec.ofBool (decide (s.err.word ≠ 0)) ∧
    (statusWord s).extractLsb' 10 22 = 0#22 := by
  have hmode := s.mode.isLt
  have hphase := s.phase.isLt
  have hbusy := (isBusy s).toNat_lt
  have hdone := (isDone s).toNat_lt
  have hfatal := (s.err.sourceUnavailable || s.err.emptyInput).toNat_lt
  have hany := (decide (s.err.word ≠ 0)).toNat_lt
  simp only [extractLsb'_eq_iff, toNat_statusWord, BitVec.toNat_ofBool, BitVec.toNat_ofNat]
  refine ⟨?_, ?_, ?_, ?_, ?_, ?_, ?_⟩ <;> omega

theorem ofBool_eq_one_iff (b : Bool) : BitVec.ofBool b = 1#1 ↔ b = true := by cases b <;> decide

/-- R33: each status stands at its two bits of FST, and nothing above. -/
theorem fstWord_layout (f : Fst) :
    (∀ p ∈ [(0, f.sync), (2, f.ver), (4, f.layer), (6, f.crc), (8, f.prof), (10, f.sf), (12, f.cc), (14, f.scan)],
      f.word.extractLsb' p.1 2 = p.2.code) ∧ f.word.extractLsb' 16 16 = 0#16 := by
  have hsync := f.sync.code.isLt
  have hver := f.ver.code.isLt
  have hlayer := f.layer.code.isLt
  have hcrc := f.crc.code.isLt
  have hprof := f.prof.code.isLt
  have hsf := f.sf.code.isLt
  have hcc := f.cc.code.isLt
  have hscan := f.scan.code.isLt
  simp only [List.forall_mem_cons, List.not_mem_nil, false_imp_iff, implies_true, and_true, extractLsb'_eq_iff,
    toNat_fstWord, BitVec.toNat_ofNat]
  refine ⟨⟨?_, ?_, ?_, ?_, ?_, ?_, ?_, ?_⟩, ?_⟩ <;> omega

/-- R36: each flag stands at the bit of its cause, and nothing else. -/
theorem errWord_layout (e : Err) : e.word.getLsbD 1 = e.syncNotFound ∧ e.word.getLsbD 2 = e.invalidLayer ∧
    e.word.getLsbD 3 = e.invalidProfile ∧ e.word.getLsbD 4 = e.invalidSamplingFrequency ∧
    e.word.getLsbD 5 = e.invalidChannelConfig ∧ e.word.getLsbD 6 = e.sourceUnavailable ∧
    e.word.getLsbD 7 = e.emptyInput ∧ e.word.getLsbD 8 = e.truncated ∧ e.word.getLsbD 0 = false ∧
    e.word.extractLsb' 9 23 = 0#23 := by
  have h1 := e.syncNotFound.toNat_lt
  have h2 := e.invalidLayer.toNat_lt
  have h3 := e.invalidProfile.toNat_lt
  have h4 := e.invalidSamplingFrequency.toNat_lt
  have h5 := e.invalidChannelConfig.toNat_lt
  have h6 := e.sourceUnavailable.toNat_lt
  have h7 := e.emptyInput.toNat_lt
  have h8 := e.truncated.toNat_lt
  simp only [getLsbD_eq_iff, extractLsb'_eq_iff, toNat_errWord, BitVec.toNat_ofNat, Bool.toNat_false]
  refine ⟨?_, ?_, ?_, ?_, ?_, ?_, ?_, ?_, ?_, ?_⟩ <;> omega

/-- Settles O10, register by register, from the words' values in arithmetic. -/
theorem registerWordLayout : Obligations.RegisterWordLayout := by
  intro s
  obtain ⟨hphase, hmode, hbusy, hdone, hfatal, hany, hrest⟩ := statusWord_layout s
  obtain ⟨hfst, hfstRest⟩ := fstWord_layout s.fst
  refine ⟨⟨hphase, hmode, ?_, ?_, ?_, ?_, hrest⟩, ⟨rfl, rfl, rfl, rfl, rfl⟩, ⟨?_, toNat_scanpWord _, ?_⟩,
    toNat_hdrWord _, toNat_rawWord _, ⟨fun p hp => ?_, hfstRest⟩, errWord_layout _⟩
  · exact (hbusy ▸ ofBool_eq_one_iff _).trans (isBusy_iff s)
  · exact (hdone ▸ ofBool_eq_one_iff _).trans decide_eq_true_iff
  · exact (hfatal ▸ ofBool_eq_one_iff _).trans (by rw [Bool.or_eq_true])
  · exact (hany ▸ ofBool_eq_one_iff _).trans decide_eq_true_iff
  · exact BitVec.toNat_setWidth_of_le (by decide)
  · exact BitVec.toNat_setWidth_of_le (by decide)
  · have hcode : (regWord s 10).extractLsb' p.1 2 = p.2.code := hfst p hp
    rw [hcode]
    exact ⟨fun h => h ▸ rfl, fun h => h ▸ rfl, fun h => h ▸ rfl, fun h => h ▸ rfl⟩

end Sys2Proof.Machine

namespace Sys2Proof.Machine

/-! ### What no row writes (R63, R139) -/

/-- What a run works from: the buffer, the parameters, MODE and the host's list. -/
structure RunInputs where
  buf : Memory
  len : Word
  srcOk : BitVec 1
  scanp : Scanp
  mode : BitVec 2
  host : List HostAct

/-- The inputs of the run that a state holds. -/
def runInputs (s : State) : RunInputs := ⟨s.buf, s.len, s.srcOk, s.scanp, s.mode, s.host⟩

section inputs
variable (s : State)

@[simp] theorem runInputs_raise (c : Cause) : runInputs (raise c s) = runInputs s := by cases c <;> rfl

@[simp] theorem runInputs_applyLayer (l : BitVec 2) : runInputs (applyLayer l s) = runInputs s := by
  unfold applyLayer
  split
  · rfl
  · exact runInputs_raise s _

@[simp] theorem runInputs_applyProfile (v : BitVec 3) : runInputs (applyProfile v s) = runInputs s := by
  unfold applyProfile
  split
  · exact runInputs_raise s _
  · rfl

@[simp] theorem runInputs_applySfi (v : BitVec 4) : runInputs (applySfi v s) = runInputs s := by
  unfold applySfi
  split
  · rfl
  · exact runInputs_raise s _

@[simp] theorem runInputs_applyChan (v : BitVec 4) : runInputs (applyChan v s) = runInputs s := by
  unfold applyChan
  split
  · exact runInputs_raise s _
  · rfl

@[simp] theorem runInputs_syncFound : runInputs (syncFound s) = runInputs s := rfl

@[simp] theorem runInputs_syncPair (b0 b1 : Byte) : runInputs (syncPair b0 b1 s) = runInputs s := by
  unfold syncPair
  split <;> rfl

@[simp] theorem runInputs_syncFail : runInputs (syncFail s) = runInputs s := by rw [syncFail_eq]; rfl

@[simp] theorem runInputs_verBits (v : BitVec 1) : runInputs (verBits v s) = runInputs s := rfl

@[simp] theorem runInputs_layerBits (l : BitVec 2) : runInputs (layerBits l s) = runInputs s := by
  rw [layerBits_eq]; rfl

@[simp] theorem runInputs_protBits (p : BitVec 1) : runInputs (protBits p s) = runInputs s := rfl

@[simp] theorem runInputs_profileBits (p : BitVec 2) : runInputs (profileBits p s) = runInputs s := by
  rw [profileBits_eq]; rfl

@[simp] theorem runInputs_sfiBits (i : BitVec 4) : runInputs (sfiBits i s) = runInputs s := by
  rw [sfiBits_eq]; rfl

@[simp] theorem runInputs_privBits (x : BitVec 1) : runInputs (privBits x s) = runInputs s := rfl

@[simp] theorem runInputs_scanPair (b0 b1 : Byte) : runInputs (scanPair b0 b1 s) = runInputs s := by
  rw [scanPair_eq]; rfl

end inputs

/-- The rows that leave the decoder: the step CHAN and the whole header. -/
abbrev ExitsDecoder (i : Instr) : Prop :=
  i = .chan ∨ ∃ v l p h x ssss pp u6 cc u24, i = .adtsHeader v l p h x ssss pp u6 cc u24

/-- The frame of row `i`: the buffer, LEN, CFG and the host's list are kept, and so is SCANP except at the decoder's exit in
a RUN. -/
structure RowFrame (i : Instr) (s t : State) : Prop where
  buf : t.buf = s.buf
  len : t.len = s.len
  srcOk : t.srcOk = s.srcOk
  host : t.host = s.host
  scanp : t.scanp = s.scanp ∨ s.mode = Mode.run ∧ ExitsDecoder i

section frame
variable {s t : State} {i : Instr}

/-- A row that keeps all that a run works from has the frame. -/
theorem RowFrame.of_inputs (h : runInputs t = runInputs s) : RowFrame i s t := by
  obtain ⟨hbuf, hlen, hsrc, hscanp, -, hhost⟩ := RunInputs.mk.inj h
  exact ⟨hbuf, hlen, hsrc, hhost, .inl hscanp⟩

/-- R139: the exit writes SCANP in a RUN, and nothing else of what a run works from. -/
theorem RowFrame.decoderExit {u : State} (h : runInputs u = runInputs s) (hi : ExitsDecoder i) :
    RowFrame i s (decoderExit u) := by
  obtain ⟨hbuf, hlen, hsrc, hscanp, hmode, hhost⟩ := RunInputs.mk.inj h
  rw [decoderExit_eq]
  refine ⟨hbuf, hlen, hsrc, hhost, ?_⟩
  by_cases hm : u.mode = Mode.run
  · exact .inr ⟨hmode ▸ hm, hi⟩
  · exact .inl ((if_neg hm).trans hscanp)

/-- R138: what CHAN does before the exit is no input of the run. -/
theorem RowFrame.chanBits {u : State} (n : BitVec 3) (h : runInputs u = runInputs s) (hi : ExitsDecoder i) :
    RowFrame i s (chanBits n u) := by
  rw [chanBits_eq]
  exact .decoderExit h hi

theorem SeqEffect.rowFrame (h : SeqEffect s i t) : RowFrame i s t := by
  cases h with
  | idle | done | priv => exact .of_inputs rfl
  | syncFound | syncPass => exact .of_inputs rfl
  | syncFail => exact .of_inputs (runInputs_syncFail s)
  | ver => exact .of_inputs (runInputs_verBits s _)
  | layer => exact .of_inputs (runInputs_layerBits s _)
  | prot => exact .of_inputs (runInputs_protBits s _)
  | profile => exact .of_inputs (runInputs_profileBits s _)
  | profileTruncated => exact .of_inputs rfl
  | sfi => exact .of_inputs (runInputs_sfiBits s _)
  | sfiTruncated => exact .of_inputs rfl
  | chan => exact .chanBits _ rfl (.inl rfl)
  | chanTruncated => rw [chanTruncated_eq]; exact .decoderExit rfl (.inl rfl)
  | scanPair => exact .of_inputs (runInputs_scanPair s _ _)
  | scanEnd => exact .of_inputs rfl

/-- A command writes MODE and the results, and no parameter. -/
theorem CmdEffect.rowFrame (h : CmdEffect s i t) : RowFrame i s t := by
  cases h with
  | ignored | nop => exact .of_inputs rfl
  | decode => rw [startDecodeOnly_eq]; exact ⟨rfl, rfl, rfl, rfl, .inl rfl⟩
  | scan => rw [startScan_eq]; exact ⟨rfl, rfl, rfl, rfl, .inl rfl⟩
  | run => rw [startRun_eq]; exact ⟨rfl, rfl, rfl, rfl, .inl rfl⟩
  | clear => rw [forget_eq]; exact ⟨rfl, rfl, rfl, rfl, .inl rfl⟩

theorem RowEffect.rowFrame (h : RowEffect s i t) : RowFrame i s t := by
  cases h with
  | seq h => exact h.rowFrame
  | cmd h => exact h.rowFrame
  | readBit | readBits | verField | protField => exact .of_inputs rfl
  | candidate => exact .of_inputs (runInputs_syncPair s _ _)
  | header => exact .chanBits _ (by simp) (.inr ⟨_, _, _, _, _, _, _, _, _, _, rfl⟩)
  | pattern => exact .of_inputs (runInputs_scanPair s _ _)
  | layerField v => exact .of_inputs (runInputs_applyLayer s v)
  | profileField v => exact .of_inputs (runInputs_applyProfile s v)
  | sfiField v => exact .of_inputs (runInputs_applySfi s v)
  | chanField v => exact .of_inputs (runInputs_applyChan s v)

end frame

/-- Settles O41: every row that completes has its frame; BUF[a] depends on the buffer alone. -/
theorem noRowWritesBufferOrParameters : Obligations.NoRowWritesBufferOrParameters := by
  intro s t i h
  obtain ⟨hbuf, hlen, hsrc, hhost, hscanp⟩ := (rowEffect_of_exec h).rowFrame
  exact ⟨hbuf, bufByte_congr hbuf, hlen, hsrc, hhost, hscanp.resolve_left⟩

/-! ### The buffer's form, and the host's load (R60, R94) -/

/-- R94: after a load each of its bytes stands at its offset, and every other byte reads as before. -/
theorem bufByte_load (s : State) (bytes : List Byte) (a : Nat) :
    (s.setBuf (s.buf.load 0 bytes)).bufByte a = (bytes[a]?).getD (s.bufByte a) := by
  simp only [State.bufByte, setBuf_buf, Memory.read_load, Nat.zero_le, true_and, Nat.zero_add, Nat.sub_zero]
  by_cases ha : a < bytes.length
  · simp [ha]
  · simp [ha]

/-- A load is the host's own move (R94). -/
theorem step_load {s : State} {bytes : List Byte} {rest : List HostAct} (hh : s.host = .load bytes :: rest) :
    step s = loadBuffer bytes (s.setHost rest) := step_of_fetch_none (by simp [fetch, hh]) hh

/-- R60: a load keeps the canonical form, and no other step touches the buffer. -/
theorem StepEffect.buf_wf {s t : State} (h : StepEffect s t) (hw : s.buf.wf = true) : t.buf.wf = true := by
  cases h with
  | turn _ _ he => rw [he.rowFrame.buf]; exact hw
  | command _ _ he => rw [he.rowFrame.buf]; exact hw
  | present _ _ he => rw [he.rowFrame.buf]; exact hw
  | load _ _ hl => exact Memory.wf_load hw (by rwa [Nat.zero_add])
  | @write idx v rest =>
    obtain ⟨len, srcOk, scanp, he⟩ := writeReg_frame idx v (s.setHost rest)
    rw [he]
    exact hw
  | read | waited | reset => exact hw

/-- Settles O48: only a load changes the buffer's list, and it does so by the buffer's laws. -/
theorem stepKeepsBufferForm : Obligations.StepKeepsBufferForm := by
  refine ⟨fun s t hw hs => (stepEffect_of_step hs).buf_wf hw, fun s bytes rest hh => ?_⟩
  rw [step_load hh]
  refine ⟨fun hb hl => ?_, fun hb => if_pos hb, fun hb hl => ?_⟩
  · refine ⟨(s.setHost rest).setBuf (s.buf.load 0 bytes), ?_, rfl, bufByte_load (s.setHost rest) bytes⟩
    simp [loadBuffer, hb, Config.lenMax, Nat.not_lt.2 hl]
  · simp [loadBuffer, hb, Config.lenMax, hl]

/-! ### No fault in a run (R62) -/

/-- In a header's first five phases CUR stands on the byte `hb1` of the candidate, which is below LEN (R140). -/
theorem HeaderInv.cur_lt_len {s : State} {n : Nat} (hh : HeaderInv n s) (hn : n ≤ 5) : s.cur.toNat < s.len.toNat := by
  rw [hh.cur, if_pos hn]
  exact ((candidateAt_iff _ _).1 hh.found).1

/-- In the invariant the row of the phase completes: the three steps that read a byte unasked have one, the other steps ask
first, and no phase is reserved. -/
theorem exec_phase_completes {s : State} {i : Instr} (h : RunInv s) (hi : encode i = (.phase, s.phase.toNat)) :
    ∃ t, exec i s = .next t := by
  have hp : s.phase.toNat = (encode i).2 := phase_of_encode hi rfl
  have hlt : ∀ n, (encode i).2 = n → 2 ≤ n → n ≤ 5 → s.cur.toNat < s.len.toNat := fun n hn h2 h5 =>
    (h.seq.header (hp.trans hn) h2 (h5.trans (by decide))).cur_lt_len h5
  cases i with
  | idle | done => exact ⟨s, rfl⟩
  | sync =>
    rcases Nat.lt_or_ge (s.cur.toNat + 1) s.len.toNat with hl | hl
    · exact ⟨_, exec_sync_pair hl⟩
    · exact ⟨_, exec_sync_fail hl⟩
  | ver => exact ⟨_, exec_ver (hlt 2 rfl (by decide) (by decide))⟩
  | layer => exact ⟨_, exec_layer (hlt 3 rfl (by decide) (by decide))⟩
  | prot => exact ⟨_, exec_prot (hlt 4 rfl (by decide) (by decide))⟩
  | profile =>
    rcases Nat.lt_or_ge (s.cur.toNat + 1) s.len.toNat with hl | hl
    · exact ⟨_, exec_profile hl⟩
    · exact ⟨_, exec_profile_truncated hl⟩
  | sfi =>
    rcases Nat.lt_or_ge s.cur.toNat s.len.toNat with hl | hl
    · exact ⟨_, exec_sfi hl⟩
    · exact ⟨_, exec_sfi_truncated hl⟩
  | priv => exact ⟨_, exec_priv s⟩
  | chan =>
    rcases Nat.lt_or_ge (s.cur.toNat + 1) s.len.toNat with hl | hl
    · exact ⟨_, exec_chan hl⟩
    · exact ⟨_, exec_chan_truncated hl⟩
  | scan =>
    rcases Nat.lt_or_ge (s.si.toNat + 1) s.len.toNat with hl | hl
    · exact ⟨_, exec_scan_pair hl⟩
    · exact ⟨_, exec_scan_end hl⟩
  | phaseReserved11 | phaseReserved12 | phaseReserved13 | phaseReserved14 | phaseReserved15 =>
    have hlegal := h.param.phase_legal
    rw [hp] at hlegal
    simp [encode] at hlegal
  | _ => cases hi

/-- R24: the four bits of PHASE always name a row. -/
theorem decode_phase_ok (p : BitVec 4) : ∃ i, decode .phase p.toNat = .ok i := by
  have hp := p.isLt
  generalize p.toNat = w at hp
  interval_cases w <;> exact ⟨_, rfl⟩

/-- R62: the sequencer's turn completes in the invariant. -/
theorem step_turn_completes {s : State} {rest : List HostAct} (h : RunInv s)
    (hr : rest = s.host ∨ s.host = .turn :: rest) (hf : fetch s = some (.phase, s.phase.toNat, s.setHost rest)) :
    ∃ t, step s = .next t := by
  obtain ⟨i, hd⟩ := decode_phase_ok s.phase
  rw [step_of_fetch_ok hf hd]
  exact exec_phase_completes (inv_turn h hr) (encode_of_decode_phase hd)

theorem faults_next {o : Host.Outcome State Fault Refusal} (h : ∃ t, o = .next t) : faults o = false := by
  obtain ⟨t, rfl⟩ := h; rfl

theorem faults_acceptCommand (f : State → State) (s : State) : faults (acceptCommand f s) = false := by
  unfold acceptCommand
  split
  · rfl
  · split <;> rfl

/-- The host's own moves read no byte of the buffer. -/
theorem faults_hostMove (a : HostAct) (s : State) : faults (hostMove a s) = false := by
  cases a with
  | load bytes =>
    change faults (loadBuffer bytes s) = false
    unfold loadBuffer
    split
    · rfl
    · split <;> rfl
  | _ => rfl

/-- A command word is a row, and no command reads the buffer. -/
theorem faults_command {s s' : State} {w : Nat} (hf : fetch s = some (.command, w, s')) : faults (step s) = false := by
  cases hd : decode .command w with
  | error e => rw [step_of_fetch_error hf hd]; rfl
  | ok i =>
    have hi := encode_of_decode_command hd
    rw [step_of_fetch_ok hf hd]
    cases i with
    | cmdNop | cmdDecode | cmdScan | cmdRun | cmdClear | cmdReserved5 | cmdReserved6 | cmdReserved7 =>
      exact faults_acceptCommand _ _
    | _ => cases congrArg Prod.fst hi

/-- R62: in the invariant no step faults, whoever moves. -/
theorem faults_step {s : State} (h : RunInv s) : faults (step s) = false := by
  cases hf : fetch s with
  | none =>
    cases hh : s.host with
    | nil => simp [fetch, hh] at hf
    | cons a rest => rw [step_of_fetch_none hf hh]; exact faults_hostMove _ _
  | some f =>
    obtain ⟨tb, w, s'⟩ := f
    obtain ⟨rfl, rfl, rfl⟩ | ⟨rest, hh, rfl, rfl, rfl⟩ | ⟨v, rest, hh, rfl, rfl, rfl⟩ | ⟨rest, hh, rfl⟩ := fetch_cases hf
    · exact faults_next (step_turn_completes h (.inl rfl) hf)
    · exact faults_next (step_turn_completes h (.inr hh) hf)
    · exact faults_command hf
    · exact (not_isSpecMove_present h.param.host_moves hh).elim

/-- Settles O51: a turn of the sequencer completes, the other moves read no byte; outside the invariant the three steps that
read a byte unasked fault without one. -/
theorem noStepReadsOutsideTheBuffer : Obligations.NoStepReadsOutsideTheBuffer := by
  refine fun s => ⟨fun h => ⟨fun f hs => ?_, fun hh => ?_⟩, fun i hi hl => exec_fault_of_le hi hl⟩
  · have hn := faults_step h
    rw [hs] at hn
    cases hn
  · exact step_turn_completes h (.inl rfl) (fetch_nil hh)

end Sys2Proof.Machine

namespace Sys2Proof.Machine

/-! ### The decoder and the encoder, row by row (R80 to R91) -/

/-- Cutting a number to a field's width gives the field whose value the cut number has. -/
theorem ofNat_eq_of_mod {n w : Nat} {x : BitVec n} (h : w % 2 ^ n = x.toNat) : BitVec.ofNat n w = x :=
  BitVec.eq_of_toNat_eq ((BitVec.toNat_ofNat w n).trans h)

theorem decode_encode_readBit {byte : Byte} {offset : Nat} (hw : (Instr.readBit byte offset).wf = true) :
    decodeReadBit (byte.toNat + 256 * offset) = .ok (.readBit byte offset) := by
  have hbyte : BitVec.ofNat 8 (byte.toNat + 256 * offset) = byte := ofNat_eq_of_mod (by omega)
  have hoffset : (byte.toNat + 256 * offset) / 256 = offset := by omega
  simp only [decodeReadBit, hbyte, hoffset, hw, if_true]

/-- R121: the contract keeps `offset` in the byte the layout gives it. -/
theorem decode_encode_readBits {byte : Byte} {offset count : Nat}
    (hw : (Instr.readBits byte offset count).wf = true) :
    decodeReadBits (byte.toNat + 256 * offset + 65536 * count) = .ok (.readBits byte offset count) := by
  have hle : offset + count ≤ 8 := of_decide_eq_true hw
  have hbyte : BitVec.ofNat 8 (byte.toNat + 256 * offset + 65536 * count) = byte := ofNat_eq_of_mod (by omega)
  have hoffset : (byte.toNat + 256 * offset + 65536 * count) / 256 % 256 = offset := by omega
  have hcount : (byte.toNat + 256 * offset + 65536 * count) / 65536 = count := by omega
  simp only [decodeReadBits, hbyte, hoffset, hcount, hw, if_true]

/-- R81: the fields of a header side by side do not overlap, so each slice gives its own field back. -/
theorem decode_encode_header (v : BitVec 1) (l : BitVec 2) (p h x : BitVec 1) (ssss : BitVec 4) (pp : BitVec 2)
    (u6 : BitVec 6) (cc : BitVec 2) (u24 : BitVec 24) :
    decodeHeader (encode (.adtsHeader v l p h x ssss pp u6 cc u24)).2 =
      .ok (.adtsHeader v l p h x ssss pp u6 cc u24) := by
  simp only [encode]
  unfold decodeHeader
  rw [if_pos (by omega)]
  congr 2 <;> exact ofNat_eq_of_mod (by omega)

theorem decodeCandidate_iff (w : Nat) (i : Instr) :
    decodeCandidate w = .ok i ↔ w / 16 = 0xFFF ∧ i = .syncCandidate (BitVec.ofNat 4 w) := by
  unfold decodeCandidate
  split
  · simp [*, eq_comm]
  · simp [*]

theorem decode_encode_candidate (low : BitVec 4) :
    decodeCandidate (0xFFF0 + low.toNat) = .ok (.syncCandidate low) :=
  (decodeCandidate_iff _ _).2 ⟨by omega, congrArg _ (ofNat_eq_of_mod (by omega)).symm⟩

/-- Settles O2: the rows with operands by their layouts, every other row by its one code. -/
theorem decodeOfEncode : Obligations.DecodeOfEncode := by
  intro i hw
  cases i with
  | readBit byte offset => exact decode_encode_readBit hw
  | readBits byte offset count => exact decode_encode_readBits hw
  | adtsHeader v l p h x ssss pp u6 cc u24 => exact decode_encode_header v l p h x ssss pp u6 cc u24
  | syncCandidate low => exact decode_encode_candidate low
  | _ => rfl

/-- R120, R121: only the two functions have a contract to meet. -/
theorem wf_of_encode {i : Instr} (h : (encode i).1 ≠ .readBit) (h' : (encode i).1 ≠ .readBits) : i.wf = true := by
  cases i with
  | readBit => exact absurd rfl h
  | readBits => exact absurd rfl h'
  | _ => rfl

theorem wf_of_decode {tb : Table} {w : Nat} {i : Instr} (h : decode tb w = .ok i) : i.wf = true := by
  have htb := encode_fst_of_decode h
  cases tb with
  | readBit => simp only [decode, decodeReadBit] at h; split at h <;> cases h; assumption
  | readBits => simp only [decode, decodeReadBits] at h; split at h <;> cases h; assumption
  | _ => exact wf_of_encode (by simp [htb]) (by simp [htb])

/-- The bits above a field, and the field under them, are the bits from the field's lowest on. -/
theorem slice_join (w k n : Nat) : w / 2 ^ (k + n) * 2 ^ (k + n) + w / 2 ^ k % 2 ^ n * 2 ^ k = w / 2 ^ k * 2 ^ k := by
  rw [Nat.pow_add, ← Nat.div_div_eq_div_mul, Nat.mul_comm (2 ^ k), ← Nat.mul_assoc, ← Nat.add_mul, Nat.div_add_mod']

/-- R81: the slices of a header, joined field by field from the top, are the header. -/
theorem encode_of_decode_header {w : Nat} {i : Instr} (h : decodeHeader w = .ok i) : encode i = (.header, w) := by
  unfold decodeHeader at h
  split at h
  next hsync =>
    cases h
    refine congrArg (Prod.mk _) ?_
    simp only [BitVec.toNat_ofNat]
    rw [← hsync, slice_join w 43 1, slice_join w 41 2, slice_join w 40 1, slice_join w 39 1, slice_join w 38 1,
      slice_join w 34 4, slice_join w 32 2, slice_join w 26 6, slice_join w 24 2, Nat.div_add_mod']
  next => cases h

theorem encode_of_decode_readBit {w : Nat} {i : Instr} (h : decodeReadBit w = .ok i) : encode i = (.readBit, w) := by
  simp only [decodeReadBit] at h
  split at h <;> cases h
  exact congrArg (Prod.mk _) (by rw [BitVec.toNat_ofNat]; omega)

theorem encode_of_decode_readBits {w : Nat} {i : Instr} (h : decodeReadBits w = .ok i) :
    encode i = (.readBits, w) := by
  simp only [decodeReadBits] at h
  split at h <;> cases h
  exact congrArg (Prod.mk _) (by rw [BitVec.toNat_ofNat]; omega)

theorem encode_of_decode_candidate {w : Nat} {i : Instr} (h : decodeCandidate w = .ok i) :
    encode i = (.candidate, w) := by
  obtain ⟨hw, rfl⟩ := (decodeCandidate_iff w i).1 h
  exact congrArg (Prod.mk _) (by rw [BitVec.toNat_ofNat]; omega)

/-- What decodes encodes back, table by table: the layouts as above, a code of the other tables to itself
(R24, R85 to R90), a command word to its bits 2:0 (R170). -/
theorem encode_of_decode {tb : Table} {w : Nat} {i : Instr} (h : decode tb w = .ok i) :
    encode i = (tb, if tb = .command then w % 8 else w) := by
  cases tb with
  | readBit => exact encode_of_decode_readBit h
  | readBits => exact encode_of_decode_readBits h
  | phase => exact encode_of_decode_phase h
  | command => exact encode_of_decode_command h
  | header => exact encode_of_decode_header h
  | candidate => exact encode_of_decode_candidate h
  | pattern | verField | protField | layerField | profileField | sfiField | chanField =>
    simp only [decode, decodePattern, decodeVerField, decodeProtField, decodeLayerField, decodeProfileField,
      decodeSfiField, decodeChanField] at h
    split at h <;> cases h <;> rfl

/-- Settles O3. -/
theorem encodeOfDecode : Obligations.EncodeOfDecode := fun _ _ _ h => ⟨wf_of_decode h, encode_of_decode h⟩

/-- Settles O1: each number is evaluated by the decoder. -/
theorem specWordsDecode : Obligations.SpecWordsDecode := by
  unfold Obligations.SpecWordsDecode
  decide

/-! ### Pairs of bytes (R89, R90) -/

theorem numberOfBytes_pair (b0 b1 : Byte) : numberOfBytes [b0, b1] = b0.toNat * 256 + b1.toNat := by
  simp [numberOfBytes]

/-- R89: the pair test in arithmetic on the two bytes. -/
theorem isCandidate_iff_toNat (b0 b1 : Byte) : isCandidate b0 b1 = true ↔ b0 = 0xFF#8 ∧ 0xF0 ≤ b1.toNat := by
  rw [isCandidate_iff, extractLsb'_eq_iff]
  exact and_congr_right fun _ => by simp only [BitVec.toNat_ofNat]; omega

/-- R89: the pair test under the mask `0xFFF0`. -/
theorem isCandidate_iff_mask (b0 b1 : Byte) :
    isCandidate b0 b1 = true ↔ (b0 ++ b1 : BitVec 16) &&& 0xFFF0#16 = 0xFFF0#16 := by
  have hlow : ∀ b : Byte, (b &&& 0xF0#8).toNat = 0xF0 ↔ 0xF0 ≤ b.toNat := by decide
  have hand : (b0 ++ b1 : BitVec 16) &&& 0xFFF0#16 = (b0 &&& 0xFF#8) ++ (b1 &&& 0xF0#8) :=
    BitVec.and_append (x₂ := 0xFF#8) (y₂ := 0xF0#8)
  have hhigh : b0 &&& 0xFF#8 = b0 := BitVec.and_allOnes
  rw [isCandidate_iff_toNat, ← hlow, hand, hhigh, ← BitVec.toNat_inj, ← BitVec.toNat_inj, toNat_append_add]
  simp only [BitVec.toNat_ofNat]
  omega

theorem decodeBytes_candidate_iff (b0 b1 : Byte) (i : Instr) : decodeBytes .candidate [b0, b1] = .ok i ↔
    isCandidate b0 b1 = true ∧ i = .syncCandidate (b1.extractLsb' 0 4) := by
  have hrow : BitVec.ofNat 4 (b0.toNat * 256 + b1.toNat) = b1.extractLsb' 0 4 :=
    ofNat_eq_of_mod (by rw [BitVec.extractLsb'_toNat, Nat.shiftRight_eq_div_pow]; omega)
  change decodeCandidate (numberOfBytes [b0, b1]) = .ok i ↔ _
  rw [numberOfBytes_pair, decodeCandidate_iff, hrow, isCandidate_iff_toNat, ← BitVec.toNat_inj]
  simp only [BitVec.toNat_ofNat]
  exact and_congr_left fun _ => by omega

/-- Settles O4. -/
theorem candidateIsTheMaskedTest : Obligations.CandidateIsTheMaskedTest := fun b0 b1 =>
  ⟨isCandidate_iff b0 b1, isCandidate_iff_mask b0 b1, isCandidate_iff_toNat b0 b1,
    ((decodeBytes_candidate_iff b0 b1 _).trans (and_iff_left rfl)).symm⟩

end Sys2Proof.Machine

namespace Sys2Proof.Machine

/-! ### The rows of the value tables (R85 to R88) -/

section tables
variable (s : State)

theorem applyLayer_ne {l : BitVec 2} (hl : l ≠ 0#2) : applyLayer l s = { s with
    fst := { s.fst with layer := .invalid }, err := { s.err with invalidLayer := true } } := if_neg hl

theorem applyProfile_known {raw : BitVec 3} (h : profMap raw ≠ .unknown) : applyProfile raw s = { s with
    hdr := { s.hdr with profile := (profMap raw).code }, fst := { s.fst with prof := .ok } } := if_neg h

theorem applyProfile_unknown {raw : BitVec 3} (h : profMap raw = .unknown) : applyProfile raw s = { s with
    hdr := { s.hdr with profile := 0 }, fst := { s.fst with prof := .invalid },
    err := { s.err with invalidProfile := true } } := if_pos h

theorem applySfi_some {idx : BitVec 4} {hz : BitVec 17} (h : sfMap idx = some hz) : applySfi idx s = { s with
    sfHz := hz, fst := { s.fst with sf := .ok } } := by
  rw [applySfi, h]
  rfl

theorem applySfi_none {idx : BitVec 4} (h : sfMap idx = none) : applySfi idx s = { s with
    sfHz := 0, fst := { s.fst with sf := .invalid }, err := { s.err with invalidSamplingFrequency := true } } := by
  rw [applySfi, h]
  rfl

theorem applyChan_known {raw : BitVec 4} (h : ccMap raw ≠ .reserved) : applyChan raw s = { s with
    hdr := { s.hdr with chan := (ccMap raw).code }, fst := { s.fst with cc := .ok } } := if_neg h

theorem applyChan_reserved {raw : BitVec 4} (h : ccMap raw = .reserved) : applyChan raw s = { s with
    hdr := { s.hdr with chan := 8 }, fst := { s.fst with cc := .invalid },
    err := { s.err with invalidChannelConfig := true } } := if_pos h

end tables

/-- Settles O31: the bit rows write their code, a layer other than 0 raises its error. -/
theorem versionProtectionLayerRows : Obligations.VersionProtectionLayerRows := by
  refine fun s => ⟨fun p hp => ?_, fun p hp => ?_, rfl, fun i hi => ?_⟩
  · fin_cases hp <;> rfl
  · fin_cases hp <;> rfl
  · fin_cases hi <;> exact congrArg Host.Outcome.next (applyLayer_ne s (by decide))

/-- Settles O32: 1 to 4 have a member of PROFMAP, the other raw values none. -/
theorem profileRows : Obligations.ProfileRows := by
  refine fun s => ⟨fun p hp => ?_, fun i hi => ?_⟩
  · fin_cases hp <;> exact congrArg Host.Outcome.next (applyProfile_known s (by decide))
  · fin_cases hi <;> exact congrArg Host.Outcome.next (applyProfile_unknown s (by decide))

/-- Settles O33: SFTAB has an entry for 0 to 12 and none for 13 to 15. -/
theorem samplingFrequencyRows : Obligations.SamplingFrequencyRows := by
  refine fun s => ⟨fun p hp => ?_, fun i hi => ?_⟩
  · fin_cases hp <;> exact congrArg Host.Outcome.next (applySfi_some s (by decide))
  · fin_cases hi <;> exact congrArg Host.Outcome.next (applySfi_none s (by decide))

/-- Settles O34: 0 to 7 have a member of CCMAP, the other raw values none. -/
theorem channelRows : Obligations.ChannelRows := by
  refine fun s => ⟨fun p hp => ?_, fun i hi => ?_⟩
  · fin_cases hp <;> exact congrArg Host.Outcome.next (applyChan_known s (by decide))
  · fin_cases hi <;> exact congrArg Host.Outcome.next (applyChan_reserved s (by decide))

/-! ### The rows of pairs and headers (R81, R89, R90) -/

/-- R131: the pair of the row is a candidate, whatever its four free bits. -/
theorem exec_syncCandidate (low : BitVec 4) (s : State) : exec (.syncCandidate low) s = .next (syncFound s) := by
  have hc : ∀ l : BitVec 4, isCandidate 0xFF#8 (0xF0#8 ||| l.setWidth 8) = true := by decide
  exact congrArg Host.Outcome.next (if_pos (hc low))

/-- R90: the four pairs of SCANP are four different pairs. -/
theorem patternByte_inj (p q : Scanp) : patternByte p = patternByte q ↔ q = p := by
  have h : ∀ v c v' c' : BitVec 1, patternByte ⟨v, c⟩ = patternByte ⟨v', c'⟩ ↔ (⟨v', c'⟩ : Scanp) = ⟨v, c⟩ := by decide
  exact h p.ver p.crc q.ver q.crc

/-- R162 on the pair of `p`: it is counted exactly if SCANP is `p`. -/
theorem scanPair_patternByte (p : Scanp) (s : State) : scanPair 0xFF#8 (patternByte p) s = { s with
    si := s.si + 1, count := if s.scanp = p then s.count + 1 else s.count } := by
  have hp : isPattern 0xFF#8 (patternByte p) s.scanp = true ↔ s.scanp = p := by
    rw [isPattern_iff, patternByte_inj]
    exact and_iff_right rfl
  simp only [scanPair_eq, hp]

/-- Settles O35. -/
theorem candidateAndPatternRows : Obligations.CandidateAndPatternRows := by
  refine fun s => ⟨fun low => exec_syncCandidate low s, fun p hp => ?_⟩
  simp only [List.mem_cons, List.not_mem_nil, or_false] at hp
  obtain rfl | rfl | rfl | rfl := hp
  · exact congrArg Host.Outcome.next (scanPair_patternByte ⟨0, 0⟩ s)
  · exact congrArg Host.Outcome.next (scanPair_patternByte ⟨0, 1⟩ s)
  · exact congrArg Host.Outcome.next (scanPair_patternByte ⟨1, 0⟩ s)
  · exact congrArg Host.Outcome.next (scanPair_patternByte ⟨1, 1⟩ s)

/-- Settles O36: the eight steps' updates composed; the fields in the statement's own spelling. -/
theorem headerRow : Obligations.HeaderRow := by
  intro s v l p h x ssss pp u6 cc u24
  have hcrc : 1 - p = ~~~ p := by revert p; decide
  have hchan : (h ++ cc).setWidth 4 = 0#1 ++ (h ++ cc) := by revert h cc; decide
  have hsf : (if ssss.toNat ≤ 12 then Status.ok else .invalid) = if 13 ≤ ssss.toNat then .invalid else .ok := by
    revert ssss; decide
  have hcur : s.cur + 1 + 1 + 1 = s.cur + 3 := by rw [BitVec.add_assoc, BitVec.add_assoc]; rfl
  refine congrArg Host.Outcome.next ?_
  simp only [syncFound_eq, verBits_eq, layerBits_eq, protBits_eq, profileBits_eq, sfiBits_eq, privBits, State.setPhase,
    chanValue_eq, chanBits_eq, decoderExit_eq, hcrc, hchan, hsf, hcur]
  rfl

end Sys2Proof.Machine

namespace Sys2Proof.Machine

/-! ### A row and the step that reads it -/

/-! A row of a value table executes its table's entry for the number it is the row of. -/

section rows
variable {w : Nat} {i : Instr} (s : State)

theorem exec_of_decode_verField (h : decode .verField w = .ok i) :
    exec i s = .next (applyVer (BitVec.ofNat 1 w) s) := by
  simp only [decode, decodeVerField] at h
  split at h <;> cases h <;> rfl

theorem exec_of_decode_layerField (h : decode .layerField w = .ok i) :
    exec i s = .next (applyLayer (BitVec.ofNat 2 w) s) := by
  simp only [decode, decodeLayerField] at h
  split at h <;> cases h <;> rfl

theorem exec_of_decode_protField (h : decode .protField w = .ok i) :
    exec i s = .next (applyProt (BitVec.ofNat 1 w) s) := by
  simp only [decode, decodeProtField] at h
  split at h <;> cases h <;> rfl

theorem exec_of_decode_profileField (h : decode .profileField w = .ok i) :
    exec i s = .next (applyProfile (BitVec.ofNat 3 w) s) := by
  simp only [decode, decodeProfileField] at h
  split at h <;> cases h <;> rfl

theorem exec_of_decode_sfiField (h : decode .sfiField w = .ok i) :
    exec i s = .next (applySfi (BitVec.ofNat 4 w) s) := by
  simp only [decode, decodeSfiField] at h
  split at h <;> cases h <;> rfl

theorem exec_of_decode_chanField (h : decode .chanField w = .ok i) :
    exec i s = .next (applyChan (BitVec.ofNat 4 w) s) := by
  simp only [decode, decodeChanField] at h
  split at h <;> cases h <;> rfl

/-- R90: a pattern row is one position of the scanner on the pair it is the row of. -/
theorem exec_of_decode_pattern (h : decode .pattern w = .ok i) :
    exec i s = .next (scanPair (BitVec.ofNat 8 (w / 256)) (BitVec.ofNat 8 w) s) := by
  simp only [decode, decodePattern] at h
  split at h <;> cases h <;> rfl

end rows

/-! R84: the fields in arithmetic on the bytes. -/

theorem ofNat_hb1Ver (b : Byte) : BitVec.ofNat 1 (b.toNat / 8 % 2) = hb1Ver b := by revert b; decide

theorem ofNat_hb1Layer (b : Byte) : BitVec.ofNat 2 (b.toNat / 2 % 4) = hb1Layer b := by revert b; decide

theorem ofNat_hb1Prot (b : Byte) : BitVec.ofNat 1 (b.toNat % 2) = hb1Prot b := by revert b; decide

theorem ofNat_hb2Profile (b : Byte) : BitVec.ofNat 3 (b.toNat % 4) = (hb2Profile b).setWidth 3 := by revert b; decide

theorem ofNat_hb2Sfi (b : Byte) : BitVec.ofNat 4 (b.toNat / 4 % 16) = hb2Sfi b := by revert b; decide

theorem ofNat_chanValue (b2 b3 : Byte) : BitVec.ofNat 4 (b2.toNat / 128 * 4 + b3.toNat % 4) =
    (chanValue (hb2ChanHigh b2) (hb3ChanLow b3)).setWidth 4 := by
  have hhigh := (extractLsb'_eq_iff b2 7 1 _).1 (hb2ChanHigh_eq b2).symm
  have hlow := (extractLsb'_eq_iff b3 0 2 _).1 (hb3ChanLow_eq b3).symm
  refine ofNat_eq_of_mod ?_
  rw [BitVec.toNat_setWidth, chanValue_eq, toNat_append_add]
  omega

/-! The advance of CUR and the table's entry do not meet. -/

theorem raise_setCur (c : Cause) (s : State) (v : Word) : raise c (s.setCur v) = (raise c s).setCur v := by
  cases c <;> rfl

theorem applyProfile_setCur (raw : BitVec 3) (s : State) (v : Word) :
    applyProfile raw (s.setCur v) = (applyProfile raw s).setCur v := by
  unfold applyProfile
  split
  · exact raise_setCur _ s v
  · rfl

theorem applyChan_setCur (raw : BitVec 4) (s : State) (v : Word) :
    applyChan raw (s.setCur v) = (applyChan raw s).setCur v := by
  unfold applyChan
  split
  · exact raise_setCur _ s v
  · rfl

section steps
variable {s : State} {i : Instr}

theorem exec_sync_eq_row (hl : s.cur.toNat + 1 < s.len.toNat)
    (hd : decodeBytes .candidate [s.bufByte s.cur.toNat, s.bufByte (s.cur.toNat + 1)] = .ok i) :
    exec .sync s = exec i s := by
  obtain ⟨hc, rfl⟩ := (decodeBytes_candidate_iff _ _ i).1 hd
  rw [exec_sync_pair hl, if_pos ((candidateAt_iff _ _).2 ⟨hl, hc⟩), exec_syncCandidate]

theorem exec_scan_eq_row (hl : s.si.toNat + 1 < s.len.toNat)
    (hd : decodeBytes .pattern [s.bufByte s.si.toNat, s.bufByte (s.si.toNat + 1)] = .ok i) :
    exec .scan s = exec i s := by
  have hrow := exec_of_decode_pattern s (show decode .pattern (numberOfBytes _) = .ok i from hd)
  rw [numberOfBytes_pair, ofNat_eq_of_mod (x := s.bufByte s.si.toNat) (by omega),
    ofNat_eq_of_mod (x := s.bufByte (s.si.toNat + 1)) (by omega)] at hrow
  rw [exec_scan_pair hl, hrow]

theorem exec_ver_row (hl : s.cur.toNat < s.len.toNat)
    (hd : decode .verField ((s.bufByte s.cur.toNat).toNat / 8 % 2) = .ok i) :
    ∃ t u, exec .ver s = .next t ∧ exec i s = .next u ∧ { u with raw := t.raw, phase := t.phase } = t := by
  have hrow := exec_of_decode_verField s hd
  rw [ofNat_hb1Ver] at hrow
  exact ⟨_, _, exec_ver hl, hrow, rfl⟩

theorem exec_layer_row (hl : s.cur.toNat < s.len.toNat)
    (hd : decode .layerField ((s.bufByte s.cur.toNat).toNat / 2 % 4) = .ok i) :
    ∃ t u, exec .layer s = .next t ∧ exec i s = .next u ∧ { u with raw := t.raw, phase := t.phase } = t := by
  have hrow := exec_of_decode_layerField s hd
  rw [ofNat_hb1Layer] at hrow
  exact ⟨_, _, exec_layer hl, hrow, rfl⟩

theorem exec_prot_row (hl : s.cur.toNat < s.len.toNat)
    (hd : decode .protField ((s.bufByte s.cur.toNat).toNat % 2) = .ok i) :
    ∃ t u, exec .prot s = .next t ∧ exec i s = .next u ∧ { u with raw := t.raw, phase := t.phase } = t := by
  have hrow := exec_of_decode_protField s hd
  rw [ofNat_hb1Prot] at hrow
  exact ⟨_, _, exec_prot hl, hrow, rfl⟩

theorem exec_profile_row (hl : s.cur.toNat + 1 < s.len.toNat)
    (hd : decode .profileField ((s.bufByte (s.cur.toNat + 1)).toNat % 4) = .ok i) :
    ∃ t u, exec .profile s = .next t ∧ exec i s = .next u ∧
      { u with cur := t.cur, raw := t.raw, phase := t.phase } = t := by
  have hrow := exec_of_decode_profileField s hd
  rw [ofNat_hb2Profile] at hrow
  refine ⟨_, _, exec_profile hl, hrow, ?_⟩
  rw [profileBits, advance, applyProfile_setCur]
  rfl

theorem exec_sfi_row (hl : s.cur.toNat < s.len.toNat)
    (hd : decode .sfiField ((s.bufByte s.cur.toNat).toNat / 4 % 16) = .ok i) :
    ∃ t u, exec .sfi s = .next t ∧ exec i s = .next u ∧ { u with raw := t.raw, phase := t.phase } = t := by
  have hrow := exec_of_decode_sfiField s hd
  rw [ofNat_hb2Sfi] at hrow
  exact ⟨_, _, exec_sfi hl, hrow, rfl⟩

/-- R139: the exit of the decoder writes SCANP, SI, COUNT and PHASE, which belong to the step and not to the row. -/
theorem exec_chan_row (hl : s.cur.toNat + 1 < s.len.toNat)
    (hd : decode .chanField ((s.bufByte s.cur.toNat).toNat / 128 * 4 + (s.bufByte (s.cur.toNat + 1)).toNat % 4) = .ok i) :
    ∃ t u, exec .chan s = .next t ∧ exec i s = .next u ∧
      { u with cur := t.cur, raw := t.raw, phase := t.phase, scanp := t.scanp, si := t.si, count := t.count } = t := by
  have hrow := exec_of_decode_chanField s hd
  rw [ofNat_chanValue] at hrow
  refine ⟨_, _, exec_chan hl, hrow, ?_⟩
  rw [chanBits, advance, applyChan_setCur, decoderExit_eq]
  rfl

end steps

/-- Settles O37: a step on a pair is the row itself, a step on a field is the row's entry and the step's own updates. -/
theorem rowsAreWhatTheirStepsDo : Obligations.RowsAreWhatTheirStepsDo := fun _ _ =>
  ⟨exec_sync_eq_row, exec_scan_eq_row, exec_ver_row, exec_layer_row, exec_prot_row, exec_profile_row, exec_sfi_row,
    exec_chan_row⟩

end Sys2Proof.Machine

namespace Sys2Proof.Machine

/-! ### Matches do not overlap (R89, R161), so COUNT stays at or below half of LEN (R126) -/

section bounds
variable {s : State}

/-- R90: the second byte of a pattern is no first byte of one. -/
theorem patternByte_ne_ff (p : Scanp) : patternByte p ≠ 0xFF#8 := by
  have h : ∀ v c : BitVec 1, patternByte ⟨v, c⟩ ≠ 0xFF#8 := by decide
  exact h p.ver p.crc

theorem patternAt_iff (s : State) (p : Scanp) (i : Nat) : patternAt s p i = true ↔
    i + 1 < s.len.toNat ∧ s.bufByte i = 0xFF#8 ∧ s.bufByte (i + 1) = patternByte p := by
  simp [patternAt, isPattern_iff]

theorem patternAt_succ_of_patternAt {p : Scanp} {i : Nat} (h : patternAt s p i = true) (q : Scanp) :
    patternAt s q (i + 1) = false := by
  obtain ⟨-, -, hsecond⟩ := (patternAt_iff s p i).1 h
  refine Bool.eq_false_iff.2 fun hnext => ?_
  obtain ⟨-, hfirst, -⟩ := (patternAt_iff s q (i + 1)).1 hnext
  exact patternByte_ne_ff p (hsecond.symm.trans hfirst)

/-- Of two neighbouring positions at most one matches. -/
theorem matchesBelow_add_two_le (s : State) (p : Scanp) (n : Nat) :
    matchesBelow s p (n + 2) ≤ matchesBelow s p n + 1 := by
  rw [matchesBelow_succ, matchesBelow_succ]
  cases hn : patternAt s p n with
  | true => simp [patternAt_succ_of_patternAt hn p]
  | false => cases patternAt s p (n + 1) <;> simp

theorem two_mul_matchesBelow_le (s : State) (p : Scanp) (n : Nat) : 2 * matchesBelow s p n ≤ n + 1 := by
  induction n using Nat.twoStepInduction with
  | zero => simp [matchesBelow]
  | one => have := matchesBelow_le s p 1; omega
  | more n ih _ => have := matchesBelow_add_two_le s p n; omega

/-- In the decoder CUR stands on a byte of the buffer, in the header at most two bytes after a candidate (R142). -/
theorem RunInv.cur_le_of_decoding (h : RunInv s) (h1 : 1 ≤ s.phase.toNat) (h8 : s.phase.toNat ≤ 8) :
    s.cur.toNat ≤ s.len.toNat + 1 := by
  rcases Nat.eq_or_lt_of_le h1 with hp | h2
  · obtain ⟨-, hcur, -⟩ := h.seq.searching ((phase_eq_iff s _).2 hp.symm)
    omega
  · have hh := h.seq.header rfl h2 h8
    have hcur := hh.cur
    have hfound := ((candidateAt_iff _ _).1 hh.found).1
    split_ifs at hcur <;> omega

/-- In the scan of a RUN CUR stands three bytes after the candidate (R139). -/
theorem RunInv.cur_le_of_runScan (h : RunInv s) (hp : s.phase = Phase.scan) (hm : s.mode = Mode.run) :
    s.cur.toNat ≤ s.len.toNat + 1 := by
  obtain ⟨hcand, hcur, -⟩ := h.seq.runScan hp hm
  have hfound := ((candidateAt_iff _ _).1 hcand).1
  omega

/-- SI stays below LEN (0 for an empty buffer), so the matches below it are at most half of LEN (R163). -/
theorem RunInv.scan_bounds (h : RunInv s) (hp : s.phase = Phase.scan) :
    s.si.toNat ≤ s.len.toNat ∧ s.count.toNat ≤ s.len.toNat / 2 := by
  obtain ⟨-, hsi, hcount⟩ := h.seq.scanning hp
  have hhalf := two_mul_matchesBelow_le s s.scanp s.si.toNat
  omega

end bounds

/-- Settles O52, from where the invariant places CUR and SI in each phase and from the count of matches that do not
overlap. -/
theorem workingRegistersStayBounded : Obligations.WorkingRegistersStayBounded := fun _ h =>
  ⟨h.cur_le_of_decoding, h.cur_le_of_runScan, h.scan_bounds⟩

/-! ### The two functions (R120 to R122) -/

section functions
variable {b : Byte} {offset count : Nat}

theorem exec_readBit (s : State) (h : offset ≤ 7) :
    exec (.readBit b offset) s = .next (s.setDataOut ((readBit b offset).setWidth 32)) :=
  if_pos (decide_eq_true h)

theorem exec_readBits (s : State) (h : offset + count ≤ 8) :
    exec (.readBits b offset count) s = .next (s.setDataOut ((readBits b offset count).setWidth 32)) :=
  if_pos (decide_eq_true h)

theorem exec_readBit_refused (s : State) (h : 8 ≤ offset) : exec (.readBit b offset) s = .refused .outOfContract :=
  if_neg fun hw => absurd (of_decide_eq_true hw) (by omega)

theorem exec_readBits_refused (s : State) (h : 8 < offset + count) :
    exec (.readBits b offset count) s = .refused .outOfContract :=
  if_neg fun hw => absurd (of_decide_eq_true hw) (by omega)

/-- R120: the mask with 1 leaves the lowest bit of the shifted byte. -/
theorem setWidth_readBit (b : Byte) (offset : Nat) :
    (readBit b offset).setWidth 32 = if b.getLsbD (7 - offset) then 1#32 else 0#32 := by
  rw [readBit, BitVec.and_one_eq_setWidth_ofBool_getLsbD, BitVec.getLsbD_ushiftRight, Nat.add_zero]
  cases b.getLsbD (7 - offset) <;> rfl

/-- R121: the field is a byte, so nothing is lost or added when it is given as a word. -/
theorem toNat_setWidth_readBits (b : Byte) (offset count : Nat) :
    ((readBits b offset count).setWidth 32).toNat = (b.toNat >>> offset) % 2 ^ count := by
  rw [BitVec.toNat_setWidth_of_le (by decide), readBits_toNat, Nat.shiftRight_eq_div_pow]

/-- Bit `n` of the field is bit `offset + n` of the byte, below `count`. -/
theorem getLsbD_setWidth_readBits (b : Byte) (offset count n : Nat) :
    ((readBits b offset count).setWidth 32).getLsbD n = (decide (n < count) && b.getLsbD (offset + n)) := by
  rw [← BitVec.testBit_toNat, toNat_setWidth_readBits, Nat.testBit_mod_two_pow, Nat.testBit_shiftRight,
    BitVec.testBit_toNat]

end functions

/-- Settles O11. -/
theorem readBitGivesTheBit : Obligations.ReadBitGivesTheBit := fun s b offset h => by
  rw [exec_readBit s h, setWidth_readBit]
  rfl

/-- Settles O12: the field's value as a number and bit by bit; a field of 8 bits is the whole byte, of 0 bits it is 0. -/
theorem readBitsGivesTheField : Obligations.ReadBitsGivesTheField := fun s b offset count h => by
  have hval := toNat_setWidth_readBits b offset count
  refine ⟨_, exec_readBits s h, hval, getLsbD_setWidth_readBits b offset count, ?_, ?_⟩
  · rintro rfl rfl
    exact hval.trans (Nat.mod_eq_of_lt b.isLt)
  · rintro rfl
    exact BitVec.eq_of_toNat_eq (hval.trans (Nat.mod_one _))

/-- Settles O13. -/
theorem outOfContractCallsStop : Obligations.OutOfContractCallsStop := fun s _ _ _ =>
  ⟨exec_readBit_refused s, exec_readBits_refused s⟩

end Sys2Proof.Machine

namespace Sys2Proof.Machine

/-! ### The decoder's steps as whole next states (R131 to R139) -/

/-- A position holds a candidate exactly if it has a following byte and the pair is one, in R89's slices. -/
theorem candidateAt_iff_bytes (s : State) (j : Nat) : candidateAt s j = true ↔
    j + 1 < s.len.toNat ∧ s.bufByte j = 0xFF#8 ∧ (s.bufByte (j + 1)).extractLsb' 4 4 = 0xF#4 := by
  rw [candidateAt_iff, isCandidate_iff]

theorem lt_of_candidateAt {s : State} {j : Nat} (h : candidateAt s j = true) : j + 1 < s.len.toNat :=
  ((candidateAt_iff s j).1 h).1

/-- R140: the first candidate is the candidate with none before it. -/
theorem firstCandidate_eq_some_iff (s : State) (j : Nat) :
    firstCandidate s = some j ↔ candidateAt s j = true ∧ ∀ k < j, candidateAt s k = false := by
  simp only [firstCandidate, List.find?_range_eq_some, List.mem_range, Bool.not_eq_true']
  refine ⟨fun ⟨hc, _, hk⟩ => ⟨hc, hk⟩, fun ⟨hc, hk⟩ => ⟨hc, ?_, hk⟩⟩
  exact Nat.lt_of_succ_lt (lt_of_candidateAt hc)

/-- R140: positions at or above LEN hold no candidate, so none is found exactly if no position holds one. -/
theorem firstCandidate_eq_none_iff (s : State) : firstCandidate s = none ↔ ∀ j, candidateAt s j = false := by
  simp only [firstCandidate, List.find?_range_eq_none, Bool.not_eq_true']
  refine ⟨fun h j => Bool.eq_false_iff.2 fun hc => ?_, fun h j _ => h j⟩
  exact Bool.eq_false_iff.1 (h j (Nat.lt_of_succ_lt (lt_of_candidateAt hc))) hc

/-- R131: the search passes no candidate over, so the one it stands on is the first, and there is none when it ends. -/
theorem RunInv.firstCandidate_of_searching {s : State} (h : RunInv s) (hp : s.phase = Phase.sync) :
    (candidateAt s s.cur.toNat = true → firstCandidate s = some s.cur.toNat) ∧
    (s.len.toNat ≤ s.cur.toNat + 1 → firstCandidate s = none ∧ ∀ j, candidateAt s j = false) := by
  obtain ⟨-, -, hfirst⟩ := h.seq.searching hp
  refine ⟨fun hc => (firstCandidate_eq_some_iff s _).2 ⟨hc, hfirst⟩, fun hl => ?_⟩
  have hnone : ∀ j, candidateAt s j = false := fun j => by
    rcases Nat.lt_or_ge j s.cur.toNat with hj | hj
    · exact hfirst j hj
    · exact Bool.eq_false_iff.2 fun hc => by have := lt_of_candidateAt hc; omega
  exact ⟨(firstCandidate_eq_none_iff s).2 hnone, hnone⟩

/-- Settles O14: one arm for each outcome of the pair test, and what the invariant says of the positions before CUR. -/
theorem syncStep : Obligations.SyncStep := by
  refine fun s => ⟨fun hl h0 h1 => ?_, fun hl hn => ?_, fun hl => ?_, RunInv.firstCandidate_of_searching⟩
  · rw [exec_sync_pair hl, if_pos ((candidateAt_iff_bytes s _).2 ⟨hl, h0, h1⟩), syncFound_eq]
  · rw [exec_sync_pair hl, if_neg fun hc => hn ((candidateAt_iff_bytes s _).1 hc).2, advance_eq]
  · rw [exec_sync_fail hl, syncFail_eq]
    rfl

/-- Settles O15. -/
theorem verStep : Obligations.VerStep := fun s hl => by
  rw [exec_ver hl, hb1Ver_eq, verBits_eq]

/-- Settles O16: the two layer bits decide the status and the flag. -/
theorem layerStep : Obligations.LayerStep := by
  refine fun s hl => ⟨fun h0 => ?_, fun hne => ?_⟩
  · rw [exec_layer hl, hb1Layer_eq, layerBits_eq, h0]
    simp
  · rw [exec_layer hl, hb1Layer_eq, layerBits_eq]
    simp [hne]

/-- R134: for one bit `1 - p` is the complement. -/
theorem one_sub_eq_not (p : BitVec 1) : 1 - p = ~~~ p := by revert p; decide

/-- Settles O17. -/
theorem protStep : Obligations.ProtStep := fun s hl => by
  rw [exec_prot hl, hb1Prot_eq, protBits_eq, one_sub_eq_not]

/-- Settles O18: the two profile bits decide the status and the flag; without `hb2` the step is truncated. -/
theorem profileStep : Obligations.ProfileStep := by
  refine fun s => ⟨fun hl hne => ?_, fun hl h0 => ?_, fun hl => ?_⟩
  · rw [exec_profile hl, hb2Profile_eq, profileBits_eq]
    simp [hne]
  · rw [exec_profile hl, hb2Profile_eq, profileBits_eq, h0]
    simp
  · rw [exec_profile_truncated hl, profileTruncated_eq]

/-- R86: SFTAB has the indices 0 to 12. -/
theorem exists_sfTab_iff (n : Nat) : (∃ hz, Config.sfTab[n]? = some hz) ↔ n ≤ 12 := by
  simp only [List.getElem?_eq_some_iff, exists_comm, exists_eq', exists_prop, and_true]
  exact Nat.lt_succ_iff

/-- Settles O19: the index has an entry in SFTAB or none; without `hb2` the step is truncated. -/
theorem sfiStep : Obligations.SfiStep := by
  refine fun s => ⟨fun hl hz htab => ?_, fun hl hi => ?_, fun hl => ?_, exists_sfTab_iff⟩
  · have hle : ¬ 13 ≤ _ := Nat.not_lt.2 ((exists_sfTab_iff _).1 ⟨hz, htab⟩)
    simp only [exec_sfi hl, hb2Sfi_eq, sfiBits_eq, htab, if_neg hle, decide_eq_false hle, Bool.or_false]
    rfl
  · have htab := List.getElem?_eq_none (l := Config.sfTab) hi
    simp only [exec_sfi hl, hb2Sfi_eq, sfiBits_eq, htab, if_pos hi, decide_eq_true hi, Bool.or_true]
    rfl
  · rw [exec_sfi_truncated hl, sfiTruncated_eq]

/-- Settles O20. -/
theorem privStep : Obligations.PrivStep := exec_priv

/-- R138: a channel value is read into four bits with 0 above it. -/
theorem setWidth_four_eq (n : BitVec 3) : n.setWidth 4 = 0#1 ++ n := by revert n; decide

/-- Settles O21: what CHAN reads, and the exit on the state it leaves. -/
theorem chanStep : Obligations.ChanStep := by
  refine fun s => ⟨fun hl => ?_, fun hl => ?_⟩
  · rw [exec_chan hl, chanBits_eq, decoderExit_eq, setWidth_four_eq, chanValue_eq, hb2ChanHigh_eq, hb3ChanLow_eq]
    rfl
  · rw [exec_chan_truncated hl, chanTruncated_eq, decoderExit_eq]
    rfl

/-- Settles O38: each arm as its one update, which leaves the fields it does not name. -/
theorem decoderStepFrame : Obligations.DecoderStepFrame := by
  intro s t i hi h
  have hphase : (encode i).1 = .phase := by
    simp only [List.mem_cons, List.not_mem_nil, or_false] at hi
    obtain rfl | rfl | rfl | rfl | rfl | rfl | rfl | rfl := hi <;> rfl
  cases seqEffect_of_exec hphase h with
  | idle | done | scanPair | scanEnd => simp at hi
  | syncFound => simp [syncFound_eq, State.bufByte]
  | syncPass => simp [advance_eq, State.bufByte]
  | syncFail => simp [syncFail_eq, State.bufByte]
  | ver => simp [verBits_eq, State.bufByte]
  | layer => simp [layerBits_eq, State.bufByte]
  | prot => simp [protBits_eq, State.bufByte]
  | profile => simp [profileBits_eq, State.bufByte]
  | profileTruncated => simp [profileTruncated_eq, State.bufByte]
  | sfi => simp [sfiBits_eq, State.bufByte]
  | sfiTruncated => simp [sfiTruncated_eq, State.bufByte]
  | priv => simp
  | chan => simp +contextual [chanBits_eq, decoderExit_eq, State.bufByte]
  | chanTruncated => simp +contextual [chanTruncated_eq, decoderExit_eq, State.bufByte]

end Sys2Proof.Machine

namespace Sys2Proof.Machine

/-! ### Runs of the machine (R178) -/

section core
variable (M : Host.Core) {s t : M.State}

theorem core_run_succ (h : M.step s = .next t) (n : Nat) : M.run (n + 1) s = M.run n t := by
  rw [Host.Core.run, h]

theorem core_run_one (s : M.State) : M.run 1 s = M.step s := by
  rw [Host.Core.run]
  cases M.step s <;> rfl

/-- The first step of a run that goes on goes on. -/
theorem core_step_of_run {n : Nat} (h : M.run (n + 1) s = .next t) : ∃ u, M.step s = .next u := by
  rw [Host.Core.run] at h
  split at h
  next u hu => exact ⟨u, hu⟩
  next => cases h
  next => cases h

end core

section runs
variable {s t : State} {m n : Nat}

theorem runSteps_succ (h : step s = .next t) (n : Nat) : runSteps (n + 1) s = runSteps n t := core_run_succ core h n

theorem runSteps_one (s : State) : runSteps 1 s = step s := core_run_one core s

theorem step_of_runSteps_succ (h : runSteps (n + 1) s = .next t) : ∃ u, step s = .next u := core_step_of_run core h

/-- A run in two parts. -/
theorem runSteps_add (h : runSteps m s = .next t) (n : Nat) : runSteps (m + n) s = runSteps n t := by
  induction m generalizing s with
  | zero => rw [Nat.zero_add, next_inj h]
  | succ m ih =>
    obtain ⟨u, hu⟩ := step_of_runSteps_succ h
    rw [Nat.succ_add, runSteps_succ hu, ih (runSteps_succ hu m ▸ h)]

/-- One step after a run. -/
theorem runSteps_step (h : runSteps m s = .next t) : runSteps (m + 1) s = step t := by
  rw [runSteps_add h 1, runSteps_one]

/-- A run along given states, each the next of the one before. -/
theorem runSteps_along {f : Nat → State} (h : ∀ k < n, step (f k) = .next (f (k + 1))) :
    runSteps n (f 0) = .next (f n) := by
  induction n with
  | zero => rfl
  | succ n ih => rw [runSteps_step (ih fun k hk => h k (Nat.lt_succ_of_lt hk)), h n (Nat.lt_succ_self n)]

/-- With no move of the host pending a step executes the row of PHASE. -/
theorem step_of_phase {i : Instr} (hh : s.host = []) (hi : decode .phase s.phase.toNat = .ok i) :
    step s = exec i s := step_of_fetch_ok (fetch_nil hh) hi

/-- Without moves of the host a run has none, and DONE is where it stays (R41). -/
theorem step_keeps_host_nil (hh : s.host = []) (hs : step s = .next t) :
    t.host = [] ∧ (s.phase = Phase.done → t.phase = Phase.done) := by
  obtain ⟨i, hd, he⟩ := exec_of_step_next (fetch_nil hh) hs
  have hi := encode_of_decode_phase hd
  have hseq := seqEffect_of_exec (congrArg Prod.fst hi) he
  refine ⟨hseq.rowFrame.host.trans hh, fun hp => ?_⟩
  rw [hseq.eq_of_done hp hi]
  exact hp

/-- A run that is not in DONE after `n` steps was in another phase after every smaller number of steps. -/
theorem phase_ne_done_before (hh : s.host = []) (h : runSteps n s = .next t) (ht : t.phase ≠ Phase.done) :
    ∀ m ≤ n, ∃ u, runSteps m s = .next u ∧ u.phase ≠ Phase.done := by
  induction n generalizing s with
  | zero =>
    intro m hm
    rw [Nat.le_zero.1 hm]
    exact ⟨t, h, ht⟩
  | succ n ih =>
    obtain ⟨u, hu⟩ := step_of_runSteps_succ h
    obtain ⟨hhost, hdone⟩ := step_keeps_host_nil hh hu
    have hrest := ih hhost (runSteps_succ hu n ▸ h)
    intro m hm
    cases m with
    | zero =>
      obtain ⟨u', hu', hp⟩ := hrest 0 (Nat.zero_le n)
      exact ⟨s, rfl, fun hs => hp (next_inj hu' ▸ hdone hs)⟩
    | succ m => exact runSteps_succ hu m ▸ hrest m (Nat.le_of_succ_le_succ hm)

end runs

/-! ### The search (R131, R140) -/

/-- What an accepted DECODE or RUN on a readable, non-empty buffer of legal length leaves: the search at offset 0 with
every result cleared (R172, R174). -/
structure AtStart (s : State) : Prop where
  host : s.host = []
  phase : s.phase = Phase.sync
  cur : s.cur = 0
  cleared : cleared s
  len_pos : 1 ≤ s.len.toNat
  len_legal : s.len ≠ 4294967295#32

theorem atStart_decodeStarted {s : State} (mode : BitVec 2) (fatal : Status) (hh : s.host = []) (hs : s.srcOk = 1)
    (h1 : 1 ≤ s.len.toNat) (hl : s.len ≠ 4294967295#32) : AtStart (decodeStarted mode fatal s) := by
  have hsrc : s.srcOk ≠ 0#1 := by rw [hs]; decide
  have hlen : s.len ≠ 0#32 := fun h0 => by simp [h0] at h1
  have hclear : cleared (decodeStarted mode fatal s) := by
    simp [cleared, decodeStarted, State.reset, hsrc, hlen]
  exact ⟨hh, if_neg (not_or.2 ⟨hsrc, hlen⟩), rfl, hclear, h1, hl⟩

theorem len_lt_of_legal {w : Word} (h : w ≠ 4294967295#32) : w.toNat < 4294967295 := by
  have hne : w.toNat ≠ 4294967295 := fun he => h (BitVec.eq_of_toNat_eq he)
  have := w.isLt
  omega

section search
variable {s : State} {j n : Nat}

/-- R131: a step of the search with CUR at `n`. -/
theorem step_search (h : AtStart s) (n : Nat) :
    step (s.setCur (BitVec.ofNat 32 n)) = exec .sync (s.setCur (BitVec.ofNat 32 n)) :=
  step_of_phase h.host (by rw [setCur_phase, h.phase]; rfl)

theorem toNat_ofNat_of_lt_len (h : n < s.len.toNat) : (BitVec.ofNat 32 n).toNat = n :=
  (BitVec.toNat_ofNat n 32).trans (Nat.mod_eq_of_lt (h.trans s.len.isLt))

/-- R131: while no candidate is met each step of the search moves CUR on by one. -/
theorem runSteps_search (h : AtStart s) (hn : n < s.len.toNat) (hno : ∀ k < n, candidateAt s k = false) :
    runSteps n s = .next (s.setCur (BitVec.ofNat 32 n)) := by
  have hstep : ∀ k < n, step (s.setCur (BitVec.ofNat 32 k)) = .next (s.setCur (BitVec.ofNat 32 (k + 1))) := by
    intro k hk
    have hcur := toNat_ofNat_of_lt_len (hk.trans hn)
    rw [step_search h, exec_sync_pair (by rw [setCur_cur, setCur_len, hcur]; omega), setCur_cur, candidateAt_setCur,
      hcur, hno k hk, if_neg Bool.false_ne_true, advance, setCur_cur, BitVec.ofNat_add]
    rfl
  have h0 : s.setCur (BitVec.ofNat 32 0) = s := congrArg s.setCur h.cur.symm
  simpa only [h0] using runSteps_along (f := fun k => s.setCur (BitVec.ofNat 32 k)) hstep

/-- R131: with no candidate in the buffer the search ends at its last byte. -/
theorem runSteps_search_fails (h : AtStart s) (hf : firstCandidate s = none) :
    runSteps s.len.toNat s = .next (syncFail (s.setCur (BitVec.ofNat 32 (s.len.toNat - 1)))) := by
  have hlen := h.len_pos
  have hlast : s.len.toNat - 1 < s.len.toNat := by omega
  have hrun := runSteps_step (runSteps_search h hlast fun k _ => (firstCandidate_eq_none_iff s).1 hf k)
  rwa [Nat.sub_add_cancel hlen, step_search h, exec_sync_fail] at hrun
  rw [setCur_cur, setCur_len, toNat_ofNat_of_lt_len hlast]
  omega

end search

end Sys2Proof.Machine

namespace Sys2Proof.Machine

/-! ### The header, byte by byte (R132 to R139) -/

/-- What SYNC on a candidate, VER, LAYER and PROT do, `b` the byte `hb1`. -/
def pastHb1 (b : Byte) (s : State) : State :=
  protBits (hb1Prot b) (layerBits (hb1Layer b) (verBits (hb1Ver b) (syncFound s)))

/-- What PROFILE, SFI and PRIV do, `b` the byte `hb2`. -/
def pastHb2 (b : Byte) (s : State) : State :=
  (sfiBits (hb2Sfi b) (profileBits (hb2Profile b) s)).setPhase Phase.chan

/-- What PROFILE, SFI and PRIV do when `hb2` does not exist. -/
def hb2Missing (s : State) : State := (sfiTruncated (profileTruncated s)).setPhase Phase.chan

section header
variable {s : State}

theorem pastHb1_eq (b : Byte) (s : State) : pastHb1 b s = { s with
    syncPos := s.cur, cur := s.cur + 1, hdr := { s.hdr with ver := hb1Ver b, crc := 1 - hb1Prot b },
    raw := { s.raw with ver := hb1Ver b, layer := hb1Layer b, pa := hb1Prot b },
    fst := { s.fst with
      sync := .ok, ver := .ok, layer := if hb1Layer b = 0#2 then .ok else .invalid, crc := .ok },
    err := { s.err with invalidLayer := s.err.invalidLayer || decide (hb1Layer b ≠ 0#2) }, phase := 5 } := by
  simp only [pastHb1, protBits_eq, layerBits_eq, verBits_eq, syncFound_eq]

theorem pastHb2_eq (b : Byte) (s : State) : pastHb2 b s = { s with
    cur := s.cur + 1, hdr := { s.hdr with profile := (hb2Profile b).setWidth 3 },
    sfHz := (Config.sfTab[(hb2Sfi b).toNat]?).getD 0,
    raw := { s.raw with prof := hb2Profile b, sfi := hb2Sfi b },
    fst := { s.fst with
      prof := if hb2Profile b = 0#2 then .invalid else .ok, sf := if 13 ≤ (hb2Sfi b).toNat then .invalid else .ok },
    err := { s.err with
      invalidProfile := s.err.invalidProfile || decide (hb2Profile b = 0#2)
      invalidSamplingFrequency := s.err.invalidSamplingFrequency || decide (13 ≤ (hb2Sfi b).toNat) },
    phase := Phase.chan } := by
  simp only [pastHb2, sfiBits_eq, profileBits_eq, State.setPhase]

theorem hb2Missing_eq (s : State) : hb2Missing s = { s with
    cur := s.cur + 1, fst := { s.fst with prof := .unread, sf := .unread }, err := { s.err with truncated := true },
    phase := Phase.chan } := by
  simp only [hb2Missing, sfiTruncated_eq, profileTruncated_eq, State.setPhase]

/-- The run from `s` is in phase `p` in the state `u`, with CUR on the offset `c`; the host is out of the way. -/
structure OnByte (s : State) (c : Nat) (p : BitVec 4) (u : State) : Prop where
  host : u.host = []
  phase : u.phase = p
  cur : u.cur.toNat = c
  len : u.len = s.len
  buf : u.buf = s.buf

variable {u : State} {c : Nat} {p : BitVec 4}

theorem OnByte.step_eq {i : Instr} (h : OnByte s c p u) (hi : decode .phase p.toNat = .ok i) : step u = exec i u :=
  step_of_phase h.host (by rw [h.phase, hi])

theorem OnByte.bufByte (h : OnByte s c p u) (a : Nat) : u.bufByte a = s.bufByte a := bufByte_congr h.buf a

theorem OnByte.candidateAt (h : OnByte s c p u) (j : Nat) : candidateAt u j = candidateAt s j :=
  congrFun (candidateAt_congr h.buf h.len) j

/-- CUR does not wrap where it moves on. -/
theorem OnByte.cur_add_one (h : OnByte s c p u) (hc : c + 1 < 2 ^ 32) : (u.cur + 1).toNat = c + 1 := by
  rw [toNat_add_one (n := c + 1) (by rw [h.cur]; exact Nat.lt_succ_self c) hc, h.cur]

theorem OnByte.sync (h : OnByte s c Phase.sync u) (hc : Machine.candidateAt s c = true) :
    step u = .next (syncFound u) ∧ OnByte s (c + 1) Phase.ver (syncFound u) := by
  refine ⟨(h.step_eq rfl).trans (SeqEffect.syncFound (by rwa [h.cur, h.candidateAt])).exec_eq, ?_⟩
  have hlt := lt_of_candidateAt hc
  exact ⟨h.host, rfl, h.cur_add_one (hlt.trans s.len.isLt), h.len, h.buf⟩

theorem OnByte.ver (h : OnByte s c Phase.ver u) (hc : c < s.len.toNat) :
    step u = .next (verBits (hb1Ver (s.bufByte c)) u) ∧
      OnByte s c Phase.layer (verBits (hb1Ver (s.bufByte c)) u) := by
  refine ⟨?_, by rw [verBits_eq]; exact ⟨h.host, rfl, h.cur, h.len, h.buf⟩⟩
  rw [h.step_eq rfl, exec_ver (by rwa [h.cur, h.len]), h.cur, h.bufByte]

theorem OnByte.layer (h : OnByte s c Phase.layer u) (hc : c < s.len.toNat) :
    step u = .next (layerBits (hb1Layer (s.bufByte c)) u) ∧
      OnByte s c Phase.prot (layerBits (hb1Layer (s.bufByte c)) u) := by
  refine ⟨?_, by rw [layerBits_eq]; exact ⟨h.host, rfl, h.cur, h.len, h.buf⟩⟩
  rw [h.step_eq rfl, exec_layer (by rwa [h.cur, h.len]), h.cur, h.bufByte]

theorem OnByte.prot (h : OnByte s c Phase.prot u) (hc : c < s.len.toNat) :
    step u = .next (protBits (hb1Prot (s.bufByte c)) u) ∧
      OnByte s c Phase.profile (protBits (hb1Prot (s.bufByte c)) u) := by
  refine ⟨?_, by rw [protBits_eq]; exact ⟨h.host, rfl, h.cur, h.len, h.buf⟩⟩
  rw [h.step_eq rfl, exec_prot (by rwa [h.cur, h.len]), h.cur, h.bufByte]

theorem OnByte.profile (h : OnByte s c Phase.profile u) (hc : c + 1 < s.len.toNat) :
    step u = .next (profileBits (hb2Profile (s.bufByte (c + 1))) u) ∧
      OnByte s (c + 1) Phase.sfi (profileBits (hb2Profile (s.bufByte (c + 1))) u) := by
  have hcur := h.cur_add_one (hc.trans s.len.isLt)
  refine ⟨?_, by rw [profileBits_eq]; exact ⟨h.host, rfl, hcur, h.len, h.buf⟩⟩
  rw [h.step_eq rfl, exec_profile (by rwa [h.cur, h.len]), h.cur, h.bufByte]

theorem OnByte.profileTruncated (h : OnByte s c Phase.profile u) (hc : s.len.toNat ≤ c + 1) (hw : c + 1 < 2 ^ 32) :
    step u = .next (profileTruncated u) ∧ OnByte s (c + 1) Phase.sfi (profileTruncated u) :=
  ⟨(h.step_eq rfl).trans (exec_profile_truncated (by rwa [h.cur, h.len])),
    by rw [profileTruncated_eq]; exact ⟨h.host, rfl, h.cur_add_one hw, h.len, h.buf⟩⟩

theorem OnByte.sfi (h : OnByte s c Phase.sfi u) (hc : c < s.len.toNat) :
    step u = .next (sfiBits (hb2Sfi (s.bufByte c)) u) ∧ OnByte s c Phase.priv (sfiBits (hb2Sfi (s.bufByte c)) u) := by
  refine ⟨?_, by rw [sfiBits_eq]; exact ⟨h.host, rfl, h.cur, h.len, h.buf⟩⟩
  rw [h.step_eq rfl, exec_sfi (by rwa [h.cur, h.len]), h.cur, h.bufByte]

theorem OnByte.sfiTruncated (h : OnByte s c Phase.sfi u) (hc : s.len.toNat ≤ c) :
    step u = .next (sfiTruncated u) ∧ OnByte s c Phase.priv (sfiTruncated u) :=
  ⟨(h.step_eq rfl).trans (exec_sfi_truncated (by rwa [h.cur, h.len])),
    by rw [sfiTruncated_eq]; exact ⟨h.host, rfl, h.cur, h.len, h.buf⟩⟩

theorem OnByte.priv (h : OnByte s c Phase.priv u) :
    step u = .next (u.setPhase Phase.chan) ∧ OnByte s c Phase.chan (u.setPhase Phase.chan) :=
  ⟨(h.step_eq rfl).trans (exec_priv u), h.host, rfl, h.cur, h.len, h.buf⟩

theorem OnByte.chan (h : OnByte s c Phase.chan u) (hc : c + 1 < s.len.toNat) : step u =
    .next (chanBits (chanValue (hb2ChanHigh (s.bufByte c)) (hb3ChanLow (s.bufByte (c + 1)))) u) := by
  rw [h.step_eq rfl, exec_chan (by rwa [h.cur, h.len]), h.cur, h.bufByte, h.bufByte]

theorem OnByte.chanTruncated (h : OnByte s c Phase.chan u) (hc : s.len.toNat ≤ c + 1) :
    step u = .next (chanTruncated u) :=
  (h.step_eq rfl).trans (exec_chan_truncated (by rwa [h.cur, h.len]))

/-- Four steps from a candidate take `hb1` in. -/
theorem OnByte.hb1 (h : OnByte s c Phase.sync u) (hc : Machine.candidateAt s c = true) :
    runSteps 4 u = .next (pastHb1 (s.bufByte (c + 1)) u) ∧
      OnByte s (c + 1) Phase.profile (pastHb1 (s.bufByte (c + 1)) u) := by
  have hlt := lt_of_candidateAt hc
  obtain ⟨esync, hsync⟩ := h.sync hc
  obtain ⟨ever, hver⟩ := hsync.ver hlt
  obtain ⟨elayer, hlayer⟩ := hver.layer hlt
  obtain ⟨eprot, hprot⟩ := hlayer.prot hlt
  exact ⟨by rw [runSteps_succ esync, runSteps_succ ever, runSteps_succ elayer, runSteps_one, eprot, pastHb1], hprot⟩

/-- Three steps take `hb2` in. -/
theorem OnByte.hb2 (h : OnByte s c Phase.profile u) (hc : c + 1 < s.len.toNat) :
    runSteps 3 u = .next (pastHb2 (s.bufByte (c + 1)) u) ∧
      OnByte s (c + 1) Phase.chan (pastHb2 (s.bufByte (c + 1)) u) := by
  obtain ⟨eprofile, hprofile⟩ := h.profile hc
  obtain ⟨esfi, hsfi⟩ := hprofile.sfi hc
  obtain ⟨epriv, hpriv⟩ := hsfi.priv
  exact ⟨by rw [runSteps_succ eprofile, runSteps_succ esfi, runSteps_one, epriv, pastHb2], hpriv⟩

/-- The same three steps when `hb2` does not exist. -/
theorem OnByte.hb2Missing (h : OnByte s c Phase.profile u) (hc : s.len.toNat ≤ c + 1) (hw : c + 1 < 2 ^ 32) :
    runSteps 3 u = .next (hb2Missing u) ∧ OnByte s (c + 1) Phase.chan (hb2Missing u) := by
  obtain ⟨eprofile, hprofile⟩ := h.profileTruncated hc hw
  obtain ⟨esfi, hsfi⟩ := hprofile.sfiTruncated hc
  obtain ⟨epriv, hpriv⟩ := hsfi.priv
  exact ⟨by rw [runSteps_succ eprofile, runSteps_succ esfi, runSteps_one, epriv, Machine.hb2Missing], hpriv⟩

end header

end Sys2Proof.Machine

namespace Sys2Proof.Machine

/-! ### The header's row is the eight steps (R81, R141) -/

theorem numberOfBytes_header (b0 b1 b2 b3 b4 b5 b6 : Byte) : numberOfBytes [b0, b1, b2, b3, b4, b5, b6] =
    b0.toNat * 2 ^ 48 + b1.toNat * 2 ^ 40 + b2.toNat * 2 ^ 32 + b3.toNat * 2 ^ 24 + b4.toNat * 2 ^ 16 +
      b5.toNat * 2 ^ 8 + b6.toNat := by
  simp only [numberOfBytes, List.foldl]
  omega

/-- R81: seven bytes that decode as a header begin with a candidate, and the row's fields are those of `hb1`, `hb2` and
`hb3`; the bit that is discarded and the bits that are never read may be anything. -/
theorem decodeBytes_header {b0 b1 b2 b3 b4 b5 b6 : Byte} {i : Instr}
    (h : decodeBytes .header [b0, b1, b2, b3, b4, b5, b6] = .ok i) : isCandidate b0 b1 = true ∧
      ∃ x u6 u24, i = .adtsHeader (hb1Ver b1) (hb1Layer b1) (hb1Prot b1) (hb2ChanHigh b2) x (hb2Sfi b2)
        (hb2Profile b2) u6 (hb3ChanLow b3) u24 := by
  change decodeHeader (numberOfBytes _) = .ok i at h
  have hw := numberOfBytes_header b0 b1 b2 b3 b4 b5 b6
  generalize numberOfBytes [b0, b1, b2, b3, b4, b5, b6] = w at h hw
  unfold decodeHeader at h
  split at h
  next hsync =>
    obtain rfl := (Except.ok.inj h).symm
    refine ⟨(isCandidate_iff_toNat b0 b1).2 ⟨BitVec.eq_of_toNat_eq ?_, ?_⟩, BitVec.ofNat 1 (w / 2 ^ 38),
      BitVec.ofNat 6 (w / 2 ^ 26), BitVec.ofNat 24 w, ?_⟩
    · simp only [BitVec.toNat_ofNat]; omega
    · omega
    · rw [hb1Ver_eq, hb1Layer_eq, hb1Prot_eq, hb2ChanHigh_eq, hb2Sfi_eq, hb2Profile_eq, hb3ChanLow_eq]
      congr 1 <;> refine ofNat_eq_of_mod ?_ <;> rw [BitVec.extractLsb'_toNat, Nat.shiftRight_eq_div_pow] <;> omega
  next => cases h

/-- Settles O58: `hb1`, `hb2` and `hb3` are taken in one after another, and the row composes the same effects. -/
theorem headerRowIsEightSteps : Obligations.HeaderRowIsEightSteps := by
  intro s i b4 b5 b6 hh hp hl hd
  obtain ⟨hpair, x, u6, u24, rfl⟩ := decodeBytes_header hd
  have hstart : OnByte s s.cur.toNat Phase.sync s := ⟨hh, hp, rfl, rfl, rfl⟩
  obtain ⟨erun1, h1⟩ := hstart.hb1 ((candidateAt_iff s _).2 ⟨by omega, hpair⟩)
  obtain ⟨erun2, h2⟩ := h1.hb2 (by omega)
  rw [show 8 = 4 + 3 + 1 from rfl, runSteps_step ((runSteps_add erun1 3).trans erun2), h2.chan (by omega)]
  rfl

/-! ### The report is one function of the buffer (R141) -/

/-- The state `s` with the report's registers holding `r`. -/
def withReport (r : Report) (s : State) : State := { s with
  syncPos := BitVec.ofNat 32 r.syncPos, cur := BitVec.ofNat 32 r.cur, hdr := r.hdr, sfHz := r.sfHz, raw := r.raw,
  fst := ⟨r.sync, r.ver, r.layer, r.crc, r.prof, r.sf, r.cc, s.fst.scan⟩, err := r.err }

theorem reportOf_withReport {r : Report} (s : State) (hp : r.syncPos < 2 ^ 32) (hc : r.cur < 2 ^ 32) :
    reportOf (withReport r s) = r := by
  simp only [reportOf, withReport, BitVec.toNat_ofNat, Nat.mod_eq_of_lt hp, Nat.mod_eq_of_lt hc]

/-- R142: the report's positions are offsets that a register holds. -/
theorem decodeReport_bounds {s : State} (hl : s.len ≠ 4294967295#32) :
    (decodeReport s).syncPos < 2 ^ 32 ∧ (decodeReport s).cur < 2 ^ 32 := by
  have hlen := len_lt_of_legal hl
  cases hf : firstCandidate s with
  | none => simp only [decodeReport, hf]; omega
  | some j =>
    have hj := lt_of_candidateAt ((firstCandidate_eq_some_iff s j).1 hf).1
    simp only [decodeReport, hf]
    omega

theorem sfStatus_eq (i : BitVec 4) :
    (if 13 ≤ i.toNat then Status.invalid else .ok) = if i.toNat ≤ 12 then .ok else .invalid := by
  revert i; decide

theorem ofNat_add_three (j : Nat) :
    BitVec.ofNat 32 j + 1#32 + 1#32 + 1#32 = BitVec.ofNat 32 (j + 3) := by
  rw [BitVec.add_assoc, BitVec.add_assoc, BitVec.ofNat_add]
  rfl

section report
variable {s : State} {j : Nat}

/-- CHAN with `hb3` in the buffer leaves the report, then the exit is taken. -/
theorem report_whole (h : AtStart s) (hf : firstCandidate s = some j) (h3 : j + 3 < s.len.toNat) :
    chanBits (chanValue (hb2ChanHigh (s.bufByte (j + 2))) (hb3ChanLow (s.bufByte (j + 3))))
      (pastHb2 (s.bufByte (j + 2)) (pastHb1 (s.bufByte (j + 1)) (s.setCur (BitVec.ofNat 32 j)))) =
    decoderExit (withReport (decodeReport s) s) := by
  obtain ⟨-, -, -, hhdr, hsf, hraw, hfst, herr⟩ := h.cleared
  have h2 : j + 2 < s.len.toNat := by omega
  simp only [chanBits_eq, pastHb2_eq, pastHb1_eq, chanValue_eq, hb1Ver_eq, hb1Layer_eq, hb1Prot_eq, hb2Profile_eq,
    hb2Sfi_eq, hb2ChanHigh_eq, hb3ChanLow_eq, sfStatus_eq, decoderExit_eq]
  simp [withReport, decodeReport, hf, h2, h3, hhdr, hsf, hraw, hfst, herr, State.reset, State.setCur, ofNat_add_three]

/-- CHAN without `hb3` leaves it too (R138). -/
theorem report_hb3Missing (h : AtStart s) (hf : firstCandidate s = some j) (h2 : j + 2 < s.len.toNat)
    (h3 : ¬ j + 3 < s.len.toNat) :
    chanTruncated (pastHb2 (s.bufByte (j + 2)) (pastHb1 (s.bufByte (j + 1)) (s.setCur (BitVec.ofNat 32 j)))) =
    decoderExit (withReport (decodeReport s) s) := by
  obtain ⟨-, -, -, hhdr, hsf, hraw, hfst, herr⟩ := h.cleared
  simp only [chanTruncated_eq, pastHb2_eq, pastHb1_eq, hb1Ver_eq, hb1Layer_eq, hb1Prot_eq, hb2Profile_eq,
    hb2Sfi_eq, sfStatus_eq, decoderExit_eq]
  simp [withReport, decodeReport, hf, h2, h3, hhdr, hsf, hraw, hfst, herr, State.reset, State.setCur, ofNat_add_three]

/-- And so it does when `hb2` does not exist either (R135, R136). -/
theorem report_hb2Missing (h : AtStart s) (hf : firstCandidate s = some j) (h2 : ¬ j + 2 < s.len.toNat) :
    chanTruncated (hb2Missing (pastHb1 (s.bufByte (j + 1)) (s.setCur (BitVec.ofNat 32 j)))) =
    decoderExit (withReport (decodeReport s) s) := by
  obtain ⟨-, -, -, hhdr, hsf, hraw, hfst, herr⟩ := h.cleared
  have h3 : ¬ j + 3 < s.len.toNat := by omega
  simp only [chanTruncated_eq, hb2Missing_eq, pastHb1_eq, hb1Ver_eq, hb1Layer_eq, hb1Prot_eq, decoderExit_eq]
  simp [withReport, decodeReport, hf, h2, h3, hhdr, hsf, hraw, hfst, herr, State.reset, State.setCur, ofNat_add_three]

end report

end Sys2Proof.Machine

namespace Sys2Proof.Machine

/-! ### DECODE and RUN from their start to the decoder's end (R131 to R141, R231) -/

section decode
variable {s : State} {j : Nat}

/-- The seven steps after the search stand in CHAN, and CHAN leaves the report and takes the decoder's exit (R139). -/
theorem runSteps_header (h : AtStart s) (hf : firstCandidate s = some j) : ∃ u, runSteps (j + 7) s = .next u ∧
    u.phase = Phase.chan ∧ step u = .next (decoderExit (withReport (decodeReport s) s)) := by
  obtain ⟨hc, hfirst⟩ := (firstCandidate_eq_some_iff s j).1 hf
  have hj := lt_of_candidateAt hc
  have hsearch := runSteps_search h (Nat.lt_of_succ_lt hj) hfirst
  have hfound : OnByte s j Phase.sync (s.setCur (BitVec.ofNat 32 j)) :=
    ⟨h.host, h.phase, toNat_ofNat_of_lt_len (Nat.lt_of_succ_lt hj), rfl, rfl⟩
  obtain ⟨erun1, h1⟩ := hfound.hb1 hc
  have hrun1 := (runSteps_add hsearch 4).trans erun1
  rcases Nat.lt_or_ge (j + 2) s.len.toNat with h2 | h2
  · obtain ⟨erun2, hchan⟩ := h1.hb2 h2
    refine ⟨_, (runSteps_add hrun1 3).trans erun2, hchan.phase, ?_⟩
    rcases Nat.lt_or_ge (j + 3) s.len.toNat with h3 | h3
    · exact (hchan.chan h3).trans (congrArg _ (report_whole h hf h3))
    · exact (hchan.chanTruncated h3).trans (congrArg _ (report_hb3Missing h hf h2 (Nat.not_lt.2 h3)))
  · have hw : j + 1 + 1 < 2 ^ 32 := by have := len_lt_of_legal h.len_legal; omega
    obtain ⟨erun2, hchan⟩ := h1.hb2Missing h2 hw
    refine ⟨_, (runSteps_add hrun1 3).trans erun2, hchan.phase, ?_⟩
    exact (hchan.chanTruncated (Nat.le_succ_of_le h2)).trans (congrArg _ (report_hb2Missing h hf (Nat.not_lt.2 h2)))

/-- R131: what a search that finds nothing leaves is the report of `SyncNotFound`. -/
theorem syncFail_eq_report (h : AtStart s) (hf : firstCandidate s = none) :
    syncFail (s.setCur (BitVec.ofNat 32 (s.len.toNat - 1))) = { withReport (decodeReport s) s with
      fst := { (withReport (decodeReport s) s).fst with scan := if s.mode = Mode.run then .unread else s.fst.scan },
      phase := Phase.done } := by
  obtain ⟨hpos, -, -, hhdr, hsf, hraw, -, herr⟩ := h.cleared
  rw [syncFail_eq]
  simp [withReport, decodeReport, hf, hpos, hhdr, hsf, hraw, herr, State.reset, State.setCur]

theorem reportOf_decodeReport (h : AtStart s) (u : State) : reportOf (withReport (decodeReport s) u) = decodeReport s :=
  reportOf_withReport u (decodeReport_bounds h.len_legal).1 (decodeReport_bounds h.len_legal).2

/-- The steps from the start of a DECODE to DONE (R231). -/
def decodeSteps (s : State) : Nat :=
  match firstCandidate s with
  | some j => j + 1 + 7
  | none => s.len.toNat

/-- Outside a RUN the decoder ends in DONE with the report, whether there is a candidate or not, and not before. -/
theorem runSteps_decode (h : AtStart s) (hm : s.mode ≠ Mode.run) :
    (∀ m < decodeSteps s, ∃ u, runSteps m s = .next u ∧ u.phase ≠ Phase.done) ∧
      runSteps (decodeSteps s) s = .next ((withReport (decodeReport s) s).setPhase Phase.done) := by
  cases hf : firstCandidate s with
  | none =>
    simp only [decodeSteps, hf]
    refine ⟨fun m hlt => ⟨_, runSteps_search h hlt fun k _ => (firstCandidate_eq_none_iff s).1 hf k, ?_⟩, ?_⟩
    · rw [setCur_phase, h.phase]; decide
    · rw [runSteps_search_fails h hf, syncFail_eq_report h hf, if_neg hm]
      rfl
  | some j =>
    simp only [decodeSteps, hf]
    obtain ⟨u, hrun, hchan, hstep⟩ := runSteps_header h hf
    refine ⟨fun m hlt => phase_ne_done_before h.host hrun (by rw [hchan]; decide) m (by omega), ?_⟩
    rw [show j + 1 + 7 = j + 7 + 1 by omega, runSteps_step hrun, hstep]
    exact congrArg _ (if_neg hm)

end decode

/-- The command DECODE, accepted. -/
theorem exec_cmdDecode {s : State} (hb : isBusy s = false) (hl : s.len ≠ 4294967295#32) :
    exec .cmdDecode s = .next (decodeStarted Mode.decode .none s) :=
  (acceptCommand_ready hb hl).trans (congrArg _ (startDecodeOnly_eq s))

/-- Settles O54: the search, the header and the exit make the report of the start, and the start differs from the state
of the command in cleared results alone. -/
theorem decodeRunGivesTheReport : Obligations.DecodeRunGivesTheReport := by
  intro s hb hh hs h1 hl
  have h := atStart_decodeStarted Mode.decode .none hh hs h1 hl
  obtain ⟨hbefore, hrun⟩ := runSteps_decode h (show Mode.decode ≠ Mode.run by decide)
  obtain ⟨-, hsi, hct, -, -, -, hfst, -⟩ := h.cleared
  exact ⟨_, _, exec_cmdDecode hb hl, hbefore, hrun, rfl, rfl, reportOf_decodeReport h _, congrArg Fst.scan hfst, hsi,
    hct, rfl, rfl, rfl, rfl, hh, rfl⟩

/-- R166: every match is a candidate. -/
theorem candidateAt_of_patternAt {s : State} {p : Scanp} {i : Nat} (h : patternAt s p i = true) :
    candidateAt s i = true := by
  simp only [patternAt, isPattern, Bool.and_eq_true, decide_eq_true_eq] at h
  simp only [candidateAt, isCandidate, Bool.and_eq_true, decide_eq_true_eq]
  tauto

/-- R166: without candidates a scan counts nothing. -/
theorem scanCount_eq_zero {s : State} (hf : firstCandidate s = none) (p : Scanp) : scanCount s p = 0 := by
  refine List.countP_eq_zero.2 fun i _ hi => ?_
  have hc := (firstCandidate_eq_none_iff s).1 hf i
  rw [candidateAt_of_patternAt hi] at hc
  cases hc

/-- The command RUN, accepted. -/
theorem exec_cmdRun {s : State} (hb : isBusy s = false) (hl : s.len ≠ 4294967295#32) :
    exec .cmdRun s = .next (decodeStarted Mode.run .unread s) :=
  (acceptCommand_ready hb hl).trans (congrArg _ (startRun_eq s))

/-- Settles O57: in a RUN the search that finds nothing marks the scan UNREAD as well. -/
theorem runWithoutCandidateSkipsTheScan : Obligations.RunWithoutCandidateSkipsTheScan := by
  intro s hb hh hs h1 hl hf
  have h := atStart_decodeStarted Mode.run .unread hh hs h1 hl
  obtain ⟨-, hsi, hct, -, -, -, -, -⟩ := h.cleared
  have hrun := runSteps_search_fails h hf
  rw [syncFail_eq_report h hf] at hrun
  refine ⟨_, _, exec_cmdRun hb hl, fun m hlt => ?_, hrun, rfl, rfl,
    reportOf_decodeReport h (decodeStarted Mode.run .unread s), rfl, hsi, hct, rfl,
    scanCount_eq_zero hf⟩
  exact ⟨_, runSteps_search h hlt fun k _ => (firstCandidate_eq_none_iff s).1 hf k, h.phase⟩

/-! ### The scan (R162, R163) -/

section scan
variable {s : State}

/-- How the scan stands after `n` positions. -/
def scanned (s : State) (n : Nat) : State :=
  (s.setSi (BitVec.ofNat 32 n)).setCount (BitVec.ofNat 32 (matchesBelow s s.scanp n))

/-- R162: a step of the scan at position `n`. -/
theorem step_scanned_eq (hh : s.host = []) (hp : s.phase = Phase.scan) (n : Nat) :
    step (scanned s n) = exec .scan (scanned s n) := by
  have hphase : (scanned s n).phase = Phase.scan := hp
  exact step_of_phase hh (by rw [hphase]; rfl)

theorem scanned_si_toNat {n : Nat} (hn : n ≤ s.len.toNat - 1) : (scanned s n).si.toNat = n := by
  have := s.len.isLt
  exact (BitVec.toNat_ofNat n 32).trans (Nat.mod_eq_of_lt (by omega))

/-- R162: one position, counted exactly if it matches. -/
theorem step_scanned (hh : s.host = []) (hp : s.phase = Phase.scan) {n : Nat} (hn : n + 1 < s.len.toNat) :
    step (scanned s n) = .next (scanned s (n + 1)) := by
  have hsi : (scanned s n).si.toNat = n := scanned_si_toNat (by omega)
  rw [step_scanned_eq hh hp, exec_scan_pair (by rwa [hsi]), hsi, scanPair_eq]
  simp only [scanned, matchesBelow_succ, patternAt_of_lt s.scanp hn, BitVec.ofNat_add]
  by_cases hm : isPattern (s.bufByte n) (s.bufByte (n + 1)) s.scanp
  · simp [hm]; rfl
  · simp [hm]; rfl

/-- R163: the scan goes over all positions with a following byte, with COUNT the matches so far. -/
theorem runSteps_scan (hh : s.host = []) (hp : s.phase = Phase.scan) (hsi : s.si = 0) (hct : s.count = 0) {n : Nat}
    (hn : n ≤ s.len.toNat - 1) : runSteps n s = .next (scanned s n) := by
  have h0 : scanned s 0 = s := by
    have hstart : scanned s 0 = (s.setSi s.si).setCount s.count := by rw [hsi, hct]; rfl
    exact hstart
  simpa only [h0] using runSteps_along (f := scanned s) fun k hk => step_scanned hh hp (by omega)

/-- R162, R163: at the last position the scan ends in DONE with the count of all matches. -/
theorem runSteps_scan_ends (hh : s.host = []) (hp : s.phase = Phase.scan) (hsi : s.si = 0) (hct : s.count = 0) :
    runSteps (s.len.toNat - 1 + 1) s = .next (scanEnd (scanned s (s.len.toNat - 1))) := by
  have hlast : (scanned s (s.len.toNat - 1)).si.toNat = s.len.toNat - 1 := scanned_si_toNat (Nat.le_refl _)
  rw [runSteps_step (runSteps_scan hh hp hsi hct (Nat.le_refl _)), step_scanned_eq hh hp, exec_scan_end]
  rw [hlast]
  exact Nat.le_add_of_sub_le (Nat.le_refl _)
end scan

end Sys2Proof.Machine

namespace Sys2Proof.Machine

/-! ### The report depends on the buffer below LEN alone (R145) -/

section congr
variable {s u : State}

theorem candidateAt_congr_below (hl : u.len = s.len) (hb : ∀ a, a < s.len.toNat → u.bufByte a = s.bufByte a) :
    candidateAt u = candidateAt s := by
  funext j
  by_cases hj : j + 1 < s.len.toNat
  · rw [candidateAt, candidateAt, hl, hb j (Nat.lt_of_succ_lt hj), hb (j + 1) hj]
  · simp [candidateAt, hl, hj]

theorem firstCandidate_congr_below (hl : u.len = s.len) (hb : ∀ a, a < s.len.toNat → u.bufByte a = s.bufByte a) :
    firstCandidate u = firstCandidate s := by
  rw [firstCandidate, firstCandidate, hl, candidateAt_congr_below hl hb]

/-- The report reads `hb1` of a candidate, and `hb2` and `hb3` only where they exist. -/
theorem decodeReport_congr_below (hl : u.len = s.len) (hb : ∀ a, a < s.len.toNat → u.bufByte a = s.bufByte a) :
    decodeReport u = decodeReport s := by
  have hfirst := firstCandidate_congr_below hl hb
  cases hf : firstCandidate s with
  | none => simp only [decodeReport, hfirst, hf, hl]
  | some j =>
    have hj := lt_of_candidateAt ((firstCandidate_eq_some_iff s j).1 hf).1
    have h1 := hb (j + 1) hj
    by_cases h2 : j + 2 < s.len.toNat
    · by_cases h3 : j + 3 < s.len.toNat
      · simp only [decodeReport, hfirst, hf, hl, h1, hb _ h2, hb _ h3]
      · simp [decodeReport, hfirst, hf, hl, h1, hb _ h2, h3]
    · have h3 : ¬ j + 3 < s.len.toNat := by omega
      simp [decodeReport, hfirst, hf, hl, h1, h2, h3]

end congr

/-- R139: the exit of the decoder in a RUN. -/
theorem decoderExit_run {s : State} (hm : s.mode = Mode.run) : decoderExit s = { s with
    scanp := ⟨s.hdr.ver, s.hdr.crc⟩, si := 0, count := 0, phase := Phase.scan } := if_pos hm

/-- Where a RUN finds a candidate its scan begins with the report in the registers, and the scan keeps it (R139). -/
theorem runSteps_run_of_candidate {s : State} {j : Nat} (h : AtStart s) (hm : s.mode = Mode.run)
    (hf : firstCandidate s = some j) : ∃ k t, runSteps k s = .next t ∧ t.phase = Phase.done ∧
      reportOf t = decodeReport s := by
  obtain ⟨u, hrun, -, hstep⟩ := runSteps_header h hf
  rw [decoderExit_run (s := withReport (decodeReport s) s) hm] at hstep
  have hheader := (runSteps_step hrun).trans hstep
  exact ⟨_, _, Eq.trans (runSteps_add hheader _) (runSteps_scan_ends h.host rfl rfl rfl), rfl,
    reportOf_decodeReport h s⟩

/-- A RUN ends in DONE with the report, with a candidate or without (R141). -/
theorem runSteps_run {s : State} (h : AtStart s) (hm : s.mode = Mode.run) : ∃ k t, runSteps k s = .next t ∧
    t.phase = Phase.done ∧ reportOf t = decodeReport s := by
  cases hf : firstCandidate s with
  | none =>
    refine ⟨_, _, (runSteps_search_fails h hf).trans (congrArg _ (syncFail_eq_report h hf)), rfl, ?_⟩
    exact reportOf_decodeReport h s
  | some j => exact runSteps_run_of_candidate h hm hf

/-- Settles O59: each run ends with the one function of its buffer, and the function reads below LEN alone. -/
theorem reportDependsOnTheBufferAlone : Obligations.ReportDependsOnTheBufferAlone := by
  intro s1 s2 hb1 hb2 hh1 hh2 hs1 hs2 hpos hlegal hlen hbuf
  have hstart1 := atStart_decodeStarted Mode.decode .none hh1 hs1 hpos hlegal
  have hstart2 := atStart_decodeStarted Mode.run .unread hh2 hs2 (by rwa [hlen]) (by rwa [hlen])
  obtain ⟨k2, t2, hrun2, hdone2, hreport2⟩ := runSteps_run hstart2 rfl
  refine ⟨_, k2, _, _, _, t2, exec_cmdDecode hb1 hlegal,
    (runSteps_decode hstart1 (show Mode.decode ≠ Mode.run by decide)).2, rfl, exec_cmdRun hb2 (by rwa [hlen]), hrun2,
    hdone2, ?_⟩
  calc reportOf t2 = decodeReport s2 := hreport2
    _ = decodeReport s1 := decodeReport_congr_below hlen hbuf
    _ = _ := (reportOf_decodeReport hstart1 (decodeStarted Mode.decode .none s1)).symm

end Sys2Proof.Machine

namespace Sys2Proof.Machine

/-! ### The scanner's pair test and its step (R90, R161, R162) -/

/-- R90: the byte `E(VER, CRC)` in arithmetic. -/
theorem toNat_patternByte (p : Scanp) : (patternByte p).toNat = 0xF0 + 8 * p.ver.toNat + (1 - p.crc.toNat) := by
  have h : ∀ v c : BitVec 1, (patternByte ⟨v, c⟩).toNat = 0xF0 + 8 * v.toNat + (1 - c.toNat) := by decide
  exact h p.ver p.crc

/-- R161: the pair test in arithmetic on the second byte. -/
theorem isPattern_iff_toNat (b0 b1 : Byte) (p : Scanp) : isPattern b0 b1 p = true ↔
    b0 = 0xFF#8 ∧ b1.toNat = 0xF0 + 8 * p.ver.toNat + (1 - p.crc.toNat) := by
  rw [isPattern_iff, ← BitVec.toNat_inj (x := b1), toNat_patternByte]

/-- R161: the pair test in the header's own bits, from the most significant on. -/
theorem isPattern_iff_bits (b0 b1 : Byte) (v c : BitVec 1) : isPattern b0 b1 ⟨v, c⟩ = true ↔
    b0 = 0xFF#8 ∧ b1.extractLsb' 4 4 = 0xF#4 ∧ b1.extractLsb' 3 1 = v ∧ b1.extractLsb' 2 1 = 0#1 ∧
      b1.extractLsb' 1 1 = 0#1 ∧ b1.extractLsb' 0 1 = 1#1 - c := by
  have hcrc : (1#1 - c).toNat = 1 - c.toNat := by revert c; decide
  rw [isPattern_iff_toNat]
  simp only [extractLsb'_eq_iff, hcrc, BitVec.toNat_ofNat]
  exact and_congr_right fun _ => by omega

/-- R90: the row of SCANP's pattern. -/
def patternRow (p : Scanp) : Instr :=
  if p.ver = 0 then (if p.crc = 0 then .scanPattern00 else .scanPattern01)
  else (if p.crc = 0 then .scanPattern10 else .scanPattern11)

/-- R90: the pair of the row, as one number of sixteen bits. -/
theorem encode_patternRow (p : Scanp) : encode (patternRow p) = (.pattern, 0xFF00 + (patternByte p).toNat) := by
  have h : ∀ v c : BitVec 1, encode (patternRow ⟨v, c⟩) = (.pattern, 0xFF00 + (patternByte ⟨v, c⟩).toNat) := by decide
  exact h p.ver p.crc

theorem wf_patternRow (p : Scanp) : (patternRow p).wf = true :=
  wf_of_encode (by simp [encode_patternRow]) (by simp [encode_patternRow])

/-- R90: no number but that pair's decodes to the row, by the round trip in its two directions. -/
theorem decode_pattern_iff (w : Nat) (p : Scanp) :
    decode .pattern w = .ok (patternRow p) ↔ w = 0xFF00 + (patternByte p).toNat := by
  constructor
  · intro h
    have hw := encode_of_decode h
    rw [encode_patternRow] at hw
    exact (congrArg Prod.snd hw).symm
  · rintro rfl
    have hd := decodeOfEncode (patternRow p) (wf_patternRow p)
    rwa [encode_patternRow] at hd

theorem decodeBytes_pattern_iff (b0 b1 : Byte) (p : Scanp) :
    decodeBytes .pattern [b0, b1] = .ok (patternRow p) ↔ isPattern b0 b1 p = true := by
  change decode .pattern (numberOfBytes [b0, b1]) = .ok (patternRow p) ↔ _
  rw [decode_pattern_iff, numberOfBytes_pair, isPattern_iff, ← BitVec.toNat_inj, ← BitVec.toNat_inj]
  simp only [BitVec.toNat_ofNat]
  omega

/-- Settles O5: the test in the header's bits, in arithmetic, and by the decoder. -/
theorem patternIsTheFiveConditions : Obligations.PatternIsTheFiveConditions := fun b0 b1 v c =>
  ⟨isPattern_iff_bits b0 b1 v c, isPattern_iff_toNat b0 b1 ⟨v, c⟩, (decodeBytes_pattern_iff b0 b1 ⟨v, c⟩).symm⟩

/-- Settles O22: one arm for each outcome of the pair test, and one for the last position. -/
theorem scanStep : Obligations.ScanStep := by
  refine fun s => ⟨fun hl h0 h1 => ?_, fun hl hn => ?_, fun hl => ?_⟩
  · rw [exec_scan_pair hl, scanPair_eq, if_pos ((isPattern_iff_toNat _ _ _).2 ⟨h0, h1⟩)]
  · rw [exec_scan_pair hl, scanPair_eq, if_neg fun hm => hn ((isPattern_iff_toNat _ _ _).1 hm)]
  · exact exec_scan_end hl

/-- Settles O39: a pair writes SI and COUNT alone, whichever row reads it; the scan's end writes FST.SCAN and PHASE. -/
theorem scannerFrame : Obligations.ScannerFrame := by
  intro s t i hi h
  have hrow : i = .scan ∨ ∃ w, decode .pattern w = .ok i := by
    simp only [List.mem_cons, List.not_mem_nil, or_false] at hi
    obtain rfl | rfl | rfl | rfl | rfl := hi
    · exact .inl rfl
    · exact .inr ⟨0xFFF1, rfl⟩
    · exact .inr ⟨0xFFF0, rfl⟩
    · exact .inr ⟨0xFFF9, rfl⟩
    · exact .inr ⟨0xFFF8, rfl⟩
  obtain rfl | ⟨w, hw⟩ := hrow
  · cases seqEffect_of_exec rfl h with
    | scanPair => rw [scanPair_eq]; exact ⟨rfl, fun hne => absurd rfl hne, fun _ => rfl⟩
    | scanEnd => exact ⟨rfl, fun hne => absurd rfl hne, fun _ => rfl⟩
  · rw [exec_of_decode_pattern s hw] at h
    obtain rfl := next_inj h
    rw [scanPair_eq]
    exact ⟨rfl, fun _ => ⟨rfl, rfl⟩, fun _ => rfl⟩

/-! ### Matches side by side, and what a whole scan counts (R163, R164, R166) -/

/-- R163: the last position has no following byte, so nothing matches there. -/
theorem scanCount_eq_matchesBelow (s : State) (p : Scanp) : scanCount s p = matchesBelow s p (s.len.toNat - 1) := by
  unfold scanCount
  cases hlen : s.len.toNat with
  | zero => rfl
  | succ n =>
    have hlast : patternAt s p n = false := by simp [patternAt, hlen]
    simp [matchesBelow_succ, hlast]

/-- R164: matches stand at least two positions apart. -/
theorem scanCount_le_half (s : State) (p : Scanp) : scanCount s p ≤ s.len.toNat / 2 := by
  have hhalf := two_mul_matchesBelow_le s p (s.len.toNat - 1)
  have hle := matchesBelow_le s p (s.len.toNat - 1)
  rw [scanCount_eq_matchesBelow]
  omega

/-- R144: a candidate that follows a 0xFF begins with the second byte of a candidate. -/
theorem candidateAt_of_succ {s : State} {i : Nat} (h0 : s.bufByte i = 0xFF#8) (hc : candidateAt s (i + 1) = true) :
    candidateAt s i = true := by
  obtain ⟨hl, hfirst, -⟩ := (candidateAt_iff_bytes s (i + 1)).1 hc
  exact (candidateAt_iff_bytes s i).2 ⟨Nat.lt_of_succ_lt hl, h0, by rw [hfirst]; decide⟩

/-- Settles O60. -/
theorem matchesDoNotOverlap : Obligations.MatchesDoNotOverlap := fun s p q _ =>
  ⟨fun h => patternAt_succ_of_patternAt h q, candidateAt_of_patternAt,
    fun _ h0 hno => Bool.eq_false_iff.2 fun hc => Bool.eq_false_iff.1 hno (candidateAt_of_succ h0 hc),
    scanCount_le_half s p⟩

/-! ### SCAN from its start to DONE (R162 to R164, R173, R231) -/

/-- How an accepted SCAN begins on a readable buffer (R173). -/
def scanStarted (s : State) : State := { s with
  mode := Mode.scan, si := 0, count := 0, fst := { s.fst with scan := .none }, phase := Phase.scan }

/-- The command SCAN, accepted on a readable buffer. -/
theorem exec_cmdScan_readable {s : State} (hb : isBusy s = false) (hs : s.srcOk = 1) (hl : s.len ≠ 4294967295#32) :
    exec .cmdScan s = .next (scanStarted s) := by
  refine (acceptCommand_ready hb hl).trans (congrArg Host.Outcome.next ?_)
  rw [startScan_eq]
  simp [scanStarted, hs]

/-- Settles O55: the scan goes over the positions from 0 on, and its count is that of the buffer the command found. -/
theorem scanRunCountsTheMatches : Obligations.ScanRunCountsTheMatches := by
  intro s hb hh hs hl
  refine ⟨scanStarted s, exec_cmdScan_readable hb hs hl, fun m hm => ?_, ?_, scanCount_le_half s s.scanp⟩
  · have hrun := runSteps_scan (s := scanStarted s) hh rfl rfl rfl (Nat.le_of_lt_succ hm)
    exact ⟨_, hrun, rfl⟩
  · have hend := runSteps_scan_ends (s := scanStarted s) hh rfl rfl rfl
    rw [scanCount_eq_matchesBelow]
    exact hend

end Sys2Proof.Machine

namespace Sys2Proof.Machine

/-! ### The transition table of PHASE (R177) -/

section phase
variable {s t : State} {i : Instr}

/-- In IDLE, in DONE and in the reserved phases the sequencer's rows keep PHASE. -/
theorem sequencerNext_of_not_busy (hb : isBusy s = false) : sequencerNext s = s.phase := by
  unfold sequencerNext
  simp only [isBusy, Bool.and_eq_false_iff, decide_eq_false_iff_not] at hb
  split
  case h_10 => rfl
  all_goals omega

/-- In SYNC the table asks for a candidate at CUR (R131). -/
theorem sequencerNext_sync (hp : s.phase.toNat = 1) : sequencerNext s =
    if s.cur.toNat + 1 < s.len.toNat then if candidateAt s s.cur.toNat then Phase.ver else Phase.sync
    else Phase.done := by
  unfold sequencerNext
  rw [hp]
  by_cases hl : s.cur.toNat + 1 < s.len.toNat
  · simp only [candidateAt_iff_bytes, hl, true_and, if_true]
  · simp only [hl, if_false]

theorem decoderExit_phase (s : State) :
    (decoderExit s).phase = if s.mode = Mode.run then Phase.scan else Phase.done := by rw [decoderExit_eq]

/-- Every arm of a phase row goes where the sequencer's row of the table says. -/
theorem SeqEffect.phase_eq (h : SeqEffect s i t) (hi : encode i = (.phase, s.phase.toNat)) :
    t.phase = sequencerNext s := by
  have hn : s.phase.toNat = (encode i).2 := (congrArg Prod.snd hi).symm
  cases h with
  | idle => exact (sequencerNext_of_not_busy (by simp [isBusy, hn, encode])).symm
  | done => exact (sequencerNext_of_not_busy (by simp [isBusy, hn, encode])).symm
  | syncFound hc =>
    rw [sequencerNext_sync hn, if_pos (lt_of_candidateAt hc), if_pos hc]; rfl
  | syncPass hl hc =>
    rw [sequencerNext_sync hn, if_pos hl, hc]
    exact (phase_eq_iff s Phase.sync).2 hn
  | syncFail hl =>
    rw [sequencerNext_sync hn, if_neg (Nat.not_lt.2 hl), syncFail_eq]
  | ver | prot | profileTruncated | sfiTruncated | priv => rw [sequencerNext, hn]; rfl
  | layer => rw [layerBits_eq, sequencerNext, hn]; rfl
  | profile => rw [profileBits_eq, sequencerNext, hn]; rfl
  | sfi => rw [sfiBits_eq, sequencerNext, hn]; rfl
  | chan => rw [chanBits_eq, decoderExit_phase, sequencerNext, hn]; rfl
  | chanTruncated => rw [chanTruncated_eq, decoderExit_phase, sequencerNext, hn]; rfl
  | scanPair hl =>
    rw [scanPair_eq, sequencerNext, hn]
    exact ((phase_eq_iff s Phase.scan).2 hn).trans (if_pos hl).symm
  | scanEnd hl => rw [sequencerNext, hn]; exact (if_neg (Nat.not_lt.2 hl)).symm

/-- Every command goes where the host's row of the table for its code says. -/
theorem CmdEffect.phase_eq {code : Nat} (h : CmdEffect s i t) (hi : encode i = (.command, code)) :
    t.phase = commandNext s code := by
  obtain rfl := congrArg Prod.snd hi
  cases h with
  | ignored _ hb => simp [commandNext, hb]
  | nop hb _ hi =>
    simp only [List.mem_cons, List.not_mem_nil, or_false] at hi
    obtain rfl | rfl | rfl | rfl := hi <;> simp [commandNext, hb, encode]
  | decode hb => rw [startDecodeOnly_eq]; simp [commandNext, hb, encode, decodeStarted]
  | scan hb => rw [startScan_eq]; simp [commandNext, hb, encode]
  | run hb => rw [startRun_eq]; simp [commandNext, hb, encode, decodeStarted]
  | clear hb => rw [forget_eq]; simp [commandNext, hb, encode]

/-- A turn of the sequencer, whatever is left on the host's list. -/
theorem phase_of_turn {moves : List HostAct} (hf : fetch s = some (.phase, s.phase.toNat, s.setHost moves))
    (hs : step s = .next t) : t.phase = sequencerNext s := by
  obtain ⟨i, hd, he⟩ := exec_of_step_next hf hs
  have hi := encode_of_decode_phase hd
  exact (seqEffect_of_exec (congrArg Prod.fst hi) he).phase_eq hi

theorem phase_of_command {v : Word} {rest : List HostAct} (hh : s.host = .wr 0 v :: rest) (hs : step s = .next t) :
    t.phase = commandNext s (v.toNat % 8) := by
  obtain ⟨i, hd, he⟩ := exec_of_step_next (fetch_command hh) hs
  have hi := encode_of_decode_command hd
  exact (cmdEffect_of_exec (congrArg Prod.fst hi) he).phase_eq hi

/-- A move of the host's own but reset keeps PHASE. -/
theorem hostMove_phase {a : HostAct} (ha : a ≠ .reset) (h : hostMove a s = .next t) : t.phase = s.phase := by
  cases a with
  | load bytes => obtain ⟨-, -, rfl⟩ := loadBuffer_cases h; rfl
  | wr idx v =>
    obtain ⟨len, srcOk, scanp, he⟩ := writeReg_frame idx v s
    rw [next_inj h, he]
  | rd | wait | turn | present => obtain rfl := next_inj h; rfl
  | reset => exact absurd rfl ha

theorem phase_of_hostMove {a : HostAct} {rest : List HostAct} (hf : fetch s = none) (hh : s.host = a :: rest)
    (ha : a ≠ .reset) (hs : step s = .next t) : t.phase = s.phase :=
  hostMove_phase (s := s.setHost rest) ha (step_of_fetch_none hf hh ▸ hs)

end phase

/-- Settles O42: the sequencer's turn and a command follow their own rows, reset goes to IDLE, and the other moves of the
spec's host keep PHASE; a `WAIT` at DONE is such a move, and the table's row for DONE keeps PHASE too. -/
theorem phaseFollowsTheTransitionTable : Obligations.PhaseFollowsTheTransitionTable := by
  intro s t hm hs
  unfold nextPhase
  split
  next hh => exact phase_of_turn (fetch_nil hh) hs
  next hh => exact phase_of_turn (fetch_turn hh) hs
  next hh =>
    by_cases hp : s.phase = 10
    · have hb : isBusy s = false := by simp [isBusy, hp]
      rw [sequencerNext_of_not_busy hb]
      exact phase_of_hostMove (by simp [fetch, hh, isDone, hp]) hh (by simp) hs
    · exact phase_of_turn (fetch_wait hh hp) hs
  next hh =>
    rw [step_of_fetch_none (by simp [fetch, hh]) hh] at hs
    exact congrArg State.phase (next_inj hs)
  next idx v rest hh =>
    split
    next h0 => subst h0; exact phase_of_command hh hs
    next h0 => exact phase_of_hostMove (by simp [fetch, hh, h0]) hh (by simp) hs
  next hh => exact phase_of_hostMove (by simp [fetch, hh]) hh (by simp) hs
  next hh => exact phase_of_hostMove (by simp [fetch, hh]) hh (by simp) hs
  next hh => exact (not_isSpecMove_present hm hh).elim

end Sys2Proof.Machine

namespace Sys2Proof.Machine

/-! ### Commands as whole next states, and their frame (R170 to R174, R179) -/

section commands
variable {s t : State} {i : Instr} {w : Nat}

/-- No command writes SCANP, nor the value the host was last given. -/
theorem CmdEffect.keeps_scanp_dataOut (h : CmdEffect s i t) : t.scanp = s.scanp ∧ t.dataOut = s.dataOut := by
  cases h with
  | ignored | nop => exact ⟨rfl, rfl⟩
  | decode => rw [startDecodeOnly_eq]; exact ⟨rfl, rfl⟩
  | scan => rw [startScan_eq]; exact ⟨rfl, rfl⟩
  | run => rw [startRun_eq]; exact ⟨rfl, rfl⟩
  | clear => rw [forget_eq]; exact ⟨rfl, rfl⟩

/-- R173: SCAN keeps the report of the decode before it, but for `SourceUnavailable`. -/
theorem CmdEffect.scan_keeps_report (h : CmdEffect s .cmdScan t) :
    t.cur = s.cur ∧ t.syncPos = s.syncPos ∧ t.hdr = s.hdr ∧ t.sfHz = s.sfHz ∧ t.raw = s.raw ∧
      { t.fst with scan := s.fst.scan } = s.fst ∧
      { t.err with sourceUnavailable := s.err.sourceUnavailable } = s.err := by
  cases h with
  | ignored | nop => exact ⟨rfl, rfl, rfl, rfl, rfl, rfl, rfl⟩
  | scan => rw [startScan_eq]; exact ⟨rfl, rfl, rfl, rfl, rfl, rfl, rfl⟩

theorem encode_fst_of_command
    (hi : i ∈ [.cmdNop, .cmdDecode, .cmdScan, .cmdRun, .cmdClear, .cmdReserved5, .cmdReserved6, .cmdReserved7]) :
    (encode i).1 = .command := by
  simp only [List.mem_cons, List.not_mem_nil, or_false] at hi
  obtain rfl | rfl | rfl | rfl | rfl | rfl | rfl | rfl := hi <;> rfl

/-- R170: the command is bits 2:0 of the word written. -/
theorem decode_command_mod (w : Nat) : decode .command (w % 8) = decode .command w := by
  change decodeCommand (w % 8) = decodeCommand w
  rw [decodeCommand, decodeCommand, Nat.mod_mod]

/-- R170: whatever word is written to CTRL, it is one of the eight commands. -/
theorem mem_commands_of_decode (hd : decode .command w = .ok i) :
    i ∈ [.cmdNop, .cmdDecode, .cmdScan, .cmdRun, .cmdClear, .cmdReserved5, .cmdReserved6, .cmdReserved7] := by
  change decodeCommand w = .ok i at hd
  unfold decodeCommand at hd
  split at hd <;> cases hd <;> simp

theorem exists_decode_command (w : Nat) : ∃ i, decode .command w = .ok i := by
  change ∃ i, decodeCommand w = .ok i
  unfold decodeCommand
  split <;> exact ⟨_, rfl⟩

/-- R170, R176: while BUSY the command of any word is ignored. -/
theorem exec_command_busy (hd : decode .command w = .ok i) (hb : isBusy s = true) : exec i s = .next s := by
  obtain ⟨f, hf⟩ := exec_command (mem_commands_of_decode hd)
  rw [hf, acceptCommand_busy hb]

/-- R171: IDLE and DONE are not BUSY. -/
theorem not_busy_of_waiting (hp : s.phase = 0 ∨ s.phase = 10) : isBusy s = false := by
  obtain hp | hp := hp <;> simp [isBusy, hp]

end commands

/-- Settles O40: the frame that every row has, and the two fields that every command keeps besides. -/
theorem commandFrame : Obligations.CommandFrame := by
  intro s t i hi h
  have he := cmdEffect_of_exec (encode_fst_of_command hi) h
  obtain ⟨hbuf, hlen, hsrc, hhost, -⟩ := he.rowFrame
  obtain ⟨hscanp, hout⟩ := he.keeps_scanp_dataOut
  refine ⟨hlen, hsrc, hscanp, hhost, hout, hbuf, bufByte_congr hbuf, ?_⟩
  rintro rfl
  exact he.scan_keeps_report

/-- Settles O25: the code is the word modulo 8; an accepted NOP has no effect, and BUSY comes before every effect. -/
theorem commandCodesNopAndReserved : Obligations.CommandCodesNopAndReserved := by
  refine ⟨fun v => ?_, rfl, rfl, rfl, rfl, rfl, rfl, rfl, rfl, fun s => ⟨fun hp hl => ?_, fun _ _ => exec_command_busy⟩⟩
  · rw [← decode_command_mod v.toNat, BitVec.extractLsb'_toNat]
    rfl
  · have hnop : acceptCommand id s = .next s := acceptCommand_ready (not_busy_of_waiting hp) hl
    exact ⟨hnop, hnop, hnop, hnop⟩

/-- Settles O26: the one update of DECODE, with the same status of the scan in its fatal cases and without. (The name
`decodeCommand` is the decoder's.) -/
theorem decodeCommand_accepted : Obligations.DecodeCommand := by
  intro s hb hl
  rw [exec_cmdDecode hb hl, decodeStarted, ite_self]
  rfl

/-- Settles O27. -/
theorem scanCommand : Obligations.ScanCommand := fun s hb hl =>
  (acceptCommand_ready hb hl).trans (congrArg _ (startScan_eq s))

/-- Settles O28: as DECODE, in the mode RUN and with the scan's status `unread` in the fatal cases. -/
theorem runCommand : Obligations.RunCommand := fun _ => exec_cmdRun

/-- Settles O29. -/
theorem clearCommand : Obligations.ClearCommand := fun s hb hl =>
  (acceptCommand_ready hb hl).trans (congrArg _ (forget_eq s))

/-! ### The waiting phases (R171) -/

/-- R41, R43: with every result and working register cleared, every register from CUR on reads 0. -/
theorem regWord_of_cleared {s : State} {idx : Nat} (hcur : s.cur = 0) (hclear : cleared s) (hidx : 5 ≤ idx) :
    regWord s idx = 0 := by
  obtain ⟨hpos, hsi, hct, hhdr, hsf, hraw, hfst, herr⟩ := hclear
  unfold regWord
  split
  case h_5 => exact hcur
  case h_6 => exact hpos
  case h_7 => rw [hhdr]; rfl
  case h_8 => rw [hsf]; rfl
  case h_9 => rw [hraw]; rfl
  case h_10 => rw [hfst]; rfl
  case h_11 => rw [herr]; rfl
  case h_12 => exact hsi
  case h_13 => exact hct
  case h_14 => rfl
  all_goals omega

/-- Settles O23: the two rows are the wait, and the invariant holds every result register cleared in IDLE. -/
theorem waitingPhasesChangeNothing : Obligations.WaitingPhasesChangeNothing := by
  refine fun s => ⟨rfl, rfl, fun hh hp => ?_, fun h hp idx hidx => ?_⟩
  · obtain hp | hp := hp
    · exact step_of_phase (i := .idle) hh (by rw [hp]; rfl)
    · exact step_of_phase (i := .done) hh (by rw [hp]; rfl)
  · obtain ⟨-, hcur, hclear⟩ := h.seq.idle hp
    exact regWord_of_cleared hcur hclear hidx

end Sys2Proof.Machine

namespace Sys2Proof.Machine

/-! ### The host's port (R176, R181) -/

section port
variable {s : State} {rest : List HostAct} {idx : Nat} {v : Word}

/-- R181: a write to another register than CTRL is one step, on the state with the move taken off the list. -/
theorem step_write (hh : s.host = .wr idx v :: rest) (hi : idx ≠ 0) :
    step s = .next (writeReg idx v (s.setHost rest)) := step_of_fetch_none (by simp [fetch, hh, hi]) hh

/-- R181: a write to a register that is no parameter is ignored. -/
theorem writeReg_of_not_param (hi : idx = 1 ∨ 5 ≤ idx) : writeReg idx v s = s := by
  unfold writeReg
  split
  · rfl
  · split
    case h_4 => rfl
    all_goals omega

/-- R176: a write to any register while BUSY is taken off the list and does nothing else. -/
theorem step_write_busy (hh : s.host = .wr idx v :: rest) (hb : isBusy s = true) :
    step s = .next (s.setHost rest) := by
  by_cases hi : idx = 0
  · subst hi
    obtain ⟨i, hd⟩ := exists_decode_command v.toNat
    exact (step_of_fetch_ok (fetch_command hh) hd).trans (exec_command_busy hd hb)
  · exact (step_write hh hi).trans (congrArg _ (writeReg_busy idx v hb))

end port

theorem regWord_of_no_register (s : State) {idx : Nat} (hi : idx = 0 ∨ 14 ≤ idx) : regWord s idx = 0 := by
  unfold regWord
  split
  case h_14 => rfl
  all_goals omega

/-- Settles O8: a read and the end of a `WAIT` are the host's own moves; a write reaches the three parameters, and no
register while BUSY. -/
theorem hostRegisterAccess : Obligations.HostRegisterAccess := by
  intro s rest idx v
  refine ⟨fun hh => step_of_fetch_none (by simp [fetch, hh]) hh, regWord_of_no_register s, fun hh hb => ?_,
    fun hh hb => ?_, fun hh hb => ?_, fun hh hi => ?_,
    fun hh h1 h9 => step_write_busy hh ((isBusy_iff s).2 ⟨h1, h9⟩),
    fun hh hp => step_of_fetch_none (by simp [fetch, hh, isDone, hp]) hh⟩
  · rw [step_write hh (by decide), writeReg, isBusy_setHost, hb]; rfl
  · rw [step_write hh (by decide), writeReg, isBusy_setHost, hb, ← BitVec.setWidth_eq_extractLsb' (by decide)]; rfl
  · rw [step_write hh (by decide), writeReg, isBusy_setHost, hb]; rfl
  · rw [step_write hh (by omega), writeReg_of_not_param hi]; rfl

/-! ### RUN is DECODE, then SCAN (R175) -/

/-- Settles O56: the RUN leaves the decoder with the report and SCANP from HDR, as the DECODE and the write leave it, and both
scans then go over the same buffer for the same pattern. -/
theorem runIsDecodeThenScan : Obligations.RunIsDecodeThenScan := by
  rintro s hb hh hs hl ⟨j, hf⟩
  have h1 : 1 ≤ s.len.toNat := by
    have := lt_of_candidateAt ((firstCandidate_eq_some_iff s j).1 hf).1
    omega
  have hrun := atStart_decodeStarted Mode.run .unread hh hs h1 hl
  have hdec := atStart_decodeStarted Mode.decode .none hh hs h1 hl
  obtain ⟨u, hu, -, hexit⟩ := runSteps_header hrun hf
  rw [decoderExit_run (s := withReport _ _) rfl] at hexit
  have hheader := (runSteps_step hu).trans hexit
  exact ⟨_, _, _, _, _, _, _, _, _, exec_cmdRun hb hl,
    (runSteps_add hheader _).trans (runSteps_scan_ends hh rfl rfl rfl), rfl,
    exec_cmdDecode hb hl, (runSteps_decode hdec (show Mode.decode ≠ Mode.run by decide)).2, rfl,
    exec_cmdScan_readable rfl hs hl, runSteps_scan_ends hh rfl rfl rfl, rfl, rfl⟩

end Sys2Proof.Machine

namespace Sys2Proof.Machine

/-! ### The bits of ERR, by cause (R190, R36) -/

theorem Cause.code_injective : Function.Injective Cause.code := by
  intro c d h
  cases c <;> cases d <;> simp_all [Cause.code]

theorem Cause.code_mem (c : Cause) : 1 ≤ c.code ∧ c.code ≤ 8 := by cases c <;> decide

/-- R190: every number from 1 to 8 is the code of a cause. -/
theorem Cause.exists_code_eq {i : Nat} (h1 : 1 ≤ i) (h8 : i ≤ 8) : ∃ c : Cause, c.code = i := by
  interval_cases i
  exacts [⟨.syncNotFound, rfl⟩, ⟨.invalidLayer, rfl⟩, ⟨.invalidProfile, rfl⟩, ⟨.invalidSamplingFrequency, rfl⟩,
    ⟨.invalidChannelConfig, rfl⟩, ⟨.sourceUnavailable, rfl⟩, ⟨.emptyInput, rfl⟩, ⟨.truncated, rfl⟩]

/-- R36: the flag of a cause stands at the bit of its code. -/
theorem getLsbD_errWord_code (e : Err) (c : Cause) : e.word.getLsbD c.code = e.has c := by
  obtain ⟨h1, h2, h3, h4, h5, h6, h7, h8, -, -⟩ := errWord_layout e
  cases c
  exacts [h1, h2, h3, h4, h5, h6, h7, h8]

/-- R36: no other bit of ERR is ever set. -/
theorem getLsbD_errWord_of_not_code (e : Err) {i : Nat} (hi : ¬ (1 ≤ i ∧ i ≤ 8)) : e.word.getLsbD i = false := by
  obtain ⟨-, -, -, -, -, -, -, -, hzero, hrest⟩ := errWord_layout e
  obtain rfl | h9 : i = 0 ∨ 9 ≤ i := by omega
  · exact hzero
  · have hlt : e.word.toNat < 2 ^ 9 := by
      rw [extractLsb'_eq_iff, BitVec.toNat_ofNat] at hrest
      have := e.word.isLt
      omega
    exact Nat.testBit_lt_two_pow (hlt.trans_le (Nat.pow_le_pow_right two_pos h9))

/-- Setting the flag of a cause sets the one bit of ERR at its code: the bit of a cause is its flag, before and after, and
every other bit is 0. -/
theorem errWord_set (e : Err) (c : Cause) : (e.set c).word = e.word ||| BitVec.twoPow 32 c.code := by
  have hcode := c.code_mem
  have hlt : c.code < 32 := by omega
  refine BitVec.eq_of_getLsbD_eq fun i _ => ?_
  rw [BitVec.getLsbD_or, BitVec.getLsbD_twoPow]
  by_cases hi : 1 ≤ i ∧ i ≤ 8
  · obtain ⟨d, rfl⟩ := Cause.exists_code_eq hi.1 hi.2
    rw [getLsbD_errWord_code, getLsbD_errWord_code, Err.has_set]
    simp [hlt, Cause.code_injective.eq_iff, eq_comm]
  · have hne : c.code ≠ i := fun h => hi (h ▸ hcode)
    simp [getLsbD_errWord_of_not_code _ hi, hne]

/-- R190, R201: raising an error sets the bit of its code in ERR. -/
theorem errWord_raise (c : Cause) (s : State) :
    regWord (raise c s) 11 = regWord s 11 ||| BitVec.twoPow 32 c.code :=
  (congrArg Err.word (raise_err c s)).trans (errWord_set s.err c)

/-- Settles O45: the eight numerals are the powers of two at the cause codes. -/
theorem eachErrorSetsItsOwnBit : Obligations.EachErrorSetsItsOwnBit := by
  intro s p hp
  have hbit : p.2 = BitVec.twoPow 32 p.1.code := by
    revert p
    decide
  rw [hbit, errWord_raise]

end Sys2Proof.Machine
